-- ==== Sys2Proof/Word.lean ====
section
/-! DEFINITION. The word types of FPLINK: unsigned bit vectors of fixed width (00_scope.md R7, 40_transform.md R94). -/

namespace Sys2Proof

/-- 4 bits: an index or an entry of the reversal table (R80). -/
abbrev Nibble := BitVec 4

/-- 8 bits: one byte of a frame, `cmd`, `status`, `data`. -/
abbrev Byte := BitVec 8

/-- 16 bits: rawAddress, DecodedAddress, `bus`. -/
abbrev Word16 := BitVec 16

/-- 24 bits: the switch word `raw24` (R60), the low part of the LED word (R65). -/
abbrev Word24 := BitVec 24

/-- 32 bits: the LED word (R64). -/
abbrev Word32 := BitVec 32

end Sys2Proof
end

