-- ==== Sys2Proof/Config.lean ====
section
/-! DEFINITION. The implementation parameters of 00_scope.md R6, and the free values: what the spec leaves to a draw of
the Link or gives no value at all. -/

namespace Sys2Proof

/-- `LED_FRAME_BYTES`: 4, the document's only value, or 3, the spec's non-default option (R6, R65, R130). -/
inductive LedFrameBytes
  | four
  | three
deriving DecidableEq, Repr

/-- The number of bytes of an LED frame. -/
def LedFrameBytes.count : LedFrameBytes → Nat
  | .four => 4
  | .three => 3

/-- `BIT_ORDER` (R6, 20_memory.md R47): which bit of a byte is first on the wire. -/
inductive BitOrder
  | msbFirst
  | lsbFirst
deriving DecidableEq, Repr

/-- The operands of one LED write: a diagnostic pattern of INIT (43_init.md R143). -/
structure Pattern where
  status : Byte
  data   : Byte
  bus    : Word16
deriving DecidableEq, Repr

/-- The parameters of R6 that the spec lets a model take as an argument. -/
structure Params where
  ledFrameBytes : LedFrameBytes
  bitOrder      : BitOrder
  safeLedMr     : Bool
  safeLedOe     : Bool
  diagAllOn     : Pattern
  diagAlt       : Pattern
deriving DecidableEq, Repr

/-- The default of every parameter, as the table of R6 gives it (the spec's decisions D4, D6, D8, D11). -/
def Params.default : Params where
  ledFrameBytes := .four
  bitOrder := .msbFirst
  safeLedMr := true
  safeLedOe := false
  diagAllOn := ⟨0xFF, 0xFF, 0xFFFF⟩
  diagAlt := ⟨0xAA, 0xAA, 0xAAAA⟩

namespace Config

/-- `RX_FRAME_BYTES` (R6): the only count a switch read may return. -/
def rxFrameBytes : Nat := 3

/-- `BITS_PER_WORD` (R6, decision D3). -/
def bitsPerWord : Nat := 8

/-- `SAFE_SW_LOAD`, `SAFE_SW_CS_N`, `SAFE_LED_STORE` (R6): 1, 1, 1. -/
def safeStrobe : Bool := true

/-- `EV_SHORT_WRITE` (R6, R155): the code of the short-write event; never stored. -/
def evShortWrite : Nat := 2

/-- `EV_INIT_FAIL` (R6, R155): the code of the init-failure event; never stored. -/
def evInitFail : Nat := 3

/-- `SERIAL_MODE`: uninterpreted; no rule reads it (R6, decision D14; log entry 15). -/
opaque serialMode : Nat

/-- `SERIAL_SPEED`: uninterpreted (log entry 15). -/
opaque serialSpeed : Nat

/-- `SERIAL_DELAY`: uninterpreted (log entry 15). -/
opaque serialDelay : Nat

/-- FREE VALUE: the Link's answer to `LinkOpen` where no answer is scripted (R43; log entry 1). -/
opaque freeOpen : Nat → Bool

/-- FREE VALUE: a count the Link answers where none is scripted: any integer (R41, R42; log entry 1). -/
opaque freeCount : Nat → Int

/-- FREE VALUE: a byte the Link delivers where none is scripted (R41; log entry 1), or a byte register that the spec
leaves without a value (R158; log entries 6 and 7). -/
opaque freeByte : Nat → Byte

/-- FREE VALUE: a bit counter the spec leaves without a value (log entries 6 and 7). -/
opaque freeBitc : Nat → BitVec 3

/-- FREE VALUE: a byte counter the spec leaves without a value (log entries 6 and 7). -/
opaque freeBytec : Nat → Fin 5

end Config

/-- The serial device configuration handed to `LinkOpen` (10_state.md R23). -/
structure SerialCfg where
  mode        : Nat
  speed       : Nat
  delay       : Nat
  bitsPerWord : Nat
deriving DecidableEq, Repr

/-- `cfg`, a constant of the design (R23). -/
def Config.serialCfg : SerialCfg :=
  ⟨Config.serialMode, Config.serialSpeed, Config.serialDelay, Config.bitsPerWord⟩

/-- A duration on the trace. The spec knows one, `SETTLE_DELAY`, and gives it no length: it is a bare symbol here (R144;
log entry 15). -/
inductive Duration
  | settleDelay
deriving DecidableEq, Repr

end Sys2Proof
end

