-- ==== Sys2Proof/Syntax.lean ====
section
/-! DEFINITION. What can be asked of FPLINK: one constructor per row of spec/opcode_table.json, and the raw requests
(a format and its bytes) that the decoder reads. -/

namespace Sys2Proof

/-- The 2-bit operation code as a name (30_encoding.md R66). -/
inductive OpCode
  | nop
  | init
  | rdsw
  | wrled
deriving DecidableEq, Repr

/-- The rows of the opcode table: the four operations (R66), the three frames (R60, R64, R65) and the sixteen entries of
the reversal table (R80). The operands of `Start` are ignored by every operation but WRLED (R68). -/
inductive Instr
  /-- NOP (43_init.md R149). -/
  | nop
  /-- INIT (43_init.md R140). -/
  | init
  /-- RDSW (41_switch_read.md R100). -/
  | rdsw
  /-- WRLED `st` = status, `d` = data, `b` = bus (42_led_write.md R120). -/
  | wrled (st d : Byte) (b : Word16)
  /-- SWFRAME: `c` = cmd, `h` and `l` = the high and the low byte of rawAddress (R60). -/
  | swframe (c h l : Byte)
  /-- LEDFRAME (R64). -/
  | ledframe (st d : Byte) (b : Word16)
  /-- LEDFRAME3 (R65): `status` is not sent. -/
  | ledframe3 (d : Byte) (b : Word16)
  | rev4_0
  | rev4_1
  | rev4_2
  | rev4_3
  | rev4_4
  | rev4_5
  | rev4_6
  | rev4_7
  | rev4_8
  | rev4_9
  | rev4_A
  | rev4_B
  | rev4_C
  | rev4_D
  | rev4_E
  | rev4_F
deriving DecidableEq, Repr

/-- The formats of the opcode table. A word does not say its own format: the port it arrives at does. -/
inductive Format
  /-- `cmd2`: the `Start` event, here 5 bytes: `op` in bits 1:0 of the first, then `s`, `d`, `b` low, `b` high (R66; the
  container is log entry 11). -/
  | cmd2
  /-- `lut4`: a table index in bits 3:0 of one byte (R80). -/
  | lut4
  /-- `frame24`: 3 bytes in wire order (R60). -/
  | frame24
  /-- `frame32`: 4 bytes in wire order (R64). -/
  | frame32
  /-- `frame24led`: 3 bytes in wire order (R65). -/
  | frame24led
deriving DecidableEq, Repr

/-- The bytes of a word of the format. -/
def Format.size : Format → Nat
  | .cmd2 => 5
  | .lut4 => 1
  | .frame24 => 3
  | .frame32 => 4
  | .frame24led => 3

/-- A raw request: the format of the port it arrives at, and its bytes in wire order, the first first. -/
structure Request where
  fmt   : Format
  bytes : List Byte
deriving DecidableEq, Repr

end Sys2Proof
end

