-- ==== Sys2Proof/WellFormed.lean ====
section
/-! DEFINITION. Which instructions and which raw requests are well-formed. -/

namespace Sys2Proof

/-- Every instruction is well-formed: all four codes are defined, the operands have no reserved value, every switch word
and every LED word is legal, and the table has an entry for every index (30_encoding.md R68, R69; 10_state.md R24). -/
def Instr.wellFormed : Instr → Bool
  | .nop => true
  | .init => true
  | .rdsw => true
  | .wrled _ _ _ => true
  | .swframe _ _ _ => true
  | .ledframe _ _ _ => true
  | .ledframe3 _ _ => true
  | .rev4_0 => true
  | .rev4_1 => true
  | .rev4_2 => true
  | .rev4_3 => true
  | .rev4_4 => true
  | .rev4_5 => true
  | .rev4_6 => true
  | .rev4_7 => true
  | .rev4_8 => true
  | .rev4_9 => true
  | .rev4_A => true
  | .rev4_B => true
  | .rev4_C => true
  | .rev4_D => true
  | .rev4_E => true
  | .rev4_F => true

/-- A raw request has exactly as many bytes as its format (R70: a length is fixed and not encoded). -/
def Request.lengthOk (r : Request) : Bool := r.bytes.length == r.fmt.size

/-- The bits of the first byte that the format gives no meaning are 0: `cmd2` has 2 bits, `lut4` has 4 (the container is
log entry 11). -/
def Request.paddingOk (r : Request) : Bool :=
  match r.fmt, r.bytes with
  | .cmd2, op :: _ => op.toNat < 4
  | .lut4, x :: _ => x.toNat < 16
  | _, _ => true

/-- A raw request that stands for an instruction. -/
def Request.wellFormed (r : Request) : Bool := r.lengthOk && r.paddingOk

end Sys2Proof
end

