-- ==== Sys2Proof/Decode.lean ====
section
/-! DEFINITION. The decoder of raw requests, the encoder, and the numbering of spec/opcode_table.json. -/

namespace Sys2Proof

/-- Why a raw request is no instruction. -/
inductive DecodeError
  /-- The number of bytes is not the format's (safe: the machine refuses). -/
  | wrongLength
  /-- A bit outside the format's width is set (safe: the machine refuses). -/
  | paddingNotZero
deriving DecidableEq, Repr

/-- The operation code (30_encoding.md R66); all four values are defined (R68). -/
def OpCode.ofBits (op : BitVec 2) : OpCode :=
  if op = 0b00 then .nop
  else if op = 0b01 then .init
  else if op = 0b10 then .rdsw
  else .wrled

/-- The 2-bit code of an operation (R66). -/
def OpCode.bits : OpCode → BitVec 2
  | .nop => 0b00
  | .init => 0b01
  | .rdsw => 0b10
  | .wrled => 0b11

/-- The operation that `Start(op, s, d, b)` asks for; the operands are ignored by NOP, INIT and RDSW (R66, R68). -/
def OpCode.instr (op : OpCode) (st d : Byte) (b : Word16) : Instr :=
  match op with
  | .nop => .nop
  | .init => .init
  | .rdsw => .rdsw
  | .wrled => .wrled st d b

/-- The table row of an index (opcode_table.json, format `lut4`). -/
def lutInstr (x : Nibble) : Instr :=
  match x.toNat with
  | 0 => .rev4_0
  | 1 => .rev4_1
  | 2 => .rev4_2
  | 3 => .rev4_3
  | 4 => .rev4_4
  | 5 => .rev4_5
  | 6 => .rev4_6
  | 7 => .rev4_7
  | 8 => .rev4_8
  | 9 => .rev4_9
  | 10 => .rev4_A
  | 11 => .rev4_B
  | 12 => .rev4_C
  | 13 => .rev4_D
  | 14 => .rev4_E
  | _ => .rev4_F

/-- A `cmd2` request: `op` in bits 1:0 of the first byte, then the operands. -/
def decodeCmd2 (op st d bl bh : Byte) : Except DecodeError Instr :=
  if op.toNat < 4 then .ok ((OpCode.ofBits (op.setWidth 2)).instr st d (bh ++ bl))
  else .error .paddingNotZero

/-- A `lut4` request: the index in bits 3:0 of one byte. -/
def decodeLut4 (x : Byte) : Except DecodeError Instr :=
  if x.toNat < 16 then .ok (lutInstr (x.setWidth 4)) else .error .paddingNotZero

/-- The decoder, total on every request. The bytes of a frame are in wire order, so the low byte is first (30_encoding.md
R60, R64, R65; 20_memory.md R45, R46). -/
def decode (r : Request) : Except DecodeError Instr :=
  match r.fmt, r.bytes with
  | .cmd2, [op, st, d, bl, bh] => decodeCmd2 op st d bl bh
  | .lut4, [x] => decodeLut4 x
  | .frame24, [l, h, c] => .ok (.swframe c h l)
  | .frame32, [bl, bh, d, st] => .ok (.ledframe st d (bh ++ bl))
  | .frame24led, [bl, bh, d] => .ok (.ledframe3 d (bh ++ bl))
  | _, _ => .error .wrongLength

/-- The low and the high byte of a 16-bit operand. -/
def loByte (b : Word16) : Byte := b.extractLsb' 0 8

def hiByte (b : Word16) : Byte := b.extractLsb' 8 8

/-- A `cmd2` request with the operands `st d b`. -/
def cmd2Request (op : OpCode) (st d : Byte) (b : Word16) : Request :=
  ⟨.cmd2, [op.bits.setWidth 8, st, d, loByte b, hiByte b]⟩

/-- A `lut4` request. -/
def lut4Request (x : Nibble) : Request := ⟨.lut4, [x.setWidth 8]⟩

/-- The request of each instruction (30_encoding.md R60, R64, R65, R66; 40_transform.md R80). -/
def encode : Instr → Request
  | .nop => cmd2Request .nop 0 0 0
  | .init => cmd2Request .init 0 0 0
  | .rdsw => cmd2Request .rdsw 0 0 0
  | .wrled st d b => cmd2Request .wrled st d b
  | .swframe c h l => ⟨.frame24, [l, h, c]⟩
  | .ledframe st d b => ⟨.frame32, [loByte b, hiByte b, d, st]⟩
  | .ledframe3 d b => ⟨.frame24led, [loByte b, hiByte b, d]⟩
  | .rev4_0 => lut4Request 0x0
  | .rev4_1 => lut4Request 0x1
  | .rev4_2 => lut4Request 0x2
  | .rev4_3 => lut4Request 0x3
  | .rev4_4 => lut4Request 0x4
  | .rev4_5 => lut4Request 0x5
  | .rev4_6 => lut4Request 0x6
  | .rev4_7 => lut4Request 0x7
  | .rev4_8 => lut4Request 0x8
  | .rev4_9 => lut4Request 0x9
  | .rev4_A => lut4Request 0xA
  | .rev4_B => lut4Request 0xB
  | .rev4_C => lut4Request 0xC
  | .rev4_D => lut4Request 0xD
  | .rev4_E => lut4Request 0xE
  | .rev4_F => lut4Request 0xF

/-- The `n` low bytes of `w`, the least significant first: the numbering of opcode_table.json laid out in wire order. -/
def tableBytes (n w : Nat) : List Byte :=
  (List.range n).map fun k => BitVec.ofNat 8 (w / 256 ^ k)

/-- The request that a word of the opcode table stands for, by its length alone. Two pairs of formats share a length, so
the choice between them is the model's (log entry 12): 24 bits are `frame24`; 8 bits are `cmd2`, but for the values 4 to 15,
which only `lut4` has. -/
def tableRequest (nbits w : Nat) : Request :=
  if nbits = 32 then ⟨.frame32, tableBytes 4 w⟩
  else if nbits = 24 then ⟨.frame24, tableBytes 3 w⟩
  else if nbits = 4 then ⟨.lut4, tableBytes 1 w⟩
  else if nbits = 8 ∧ 4 ≤ w ∧ w < 16 then ⟨.lut4, tableBytes 1 w⟩
  else ⟨.cmd2, tableBytes 5 w⟩

/-- What the decoder reads from a word numbered as spec/opcode_table.json numbers it. -/
def decodeTableWord (nbits w : Nat) : Option Instr :=
  match decode (tableRequest nbits w) with
  | .ok i => some i
  | .error _ => none

end Sys2Proof
end

