-- ==== Sys2Proof/Machine/State.lean ====
section
/-! DEFINITION. The state of FPLINK as plain data: the record `S` of 10_state.md R10 to R23, the two observation lists of
R29, the Host's own values of 60_exceptions.md R170, and the model's own fields (what reaches the block next, the Link's
answers still to come, the results so far). -/

namespace Sys2Proof.Machine

/-- The phase `ph`: the 19 values of 10_state.md R16. -/
inductive Phase
  | idle
  | halt
  | rd1
  | rd2
  | rd3
  | rd4
  | rd5
  | wr1
  | wr2
  | wr3
  | in1
  | in2
  | in3
  | in4
  | in5
  | in6
  | in7
  | in8
  | in9
deriving DecidableEq, Repr

/-- The five control lines (10_state.md R22). -/
inductive Line
  | swLoad
  | swCsN
  | ledMr
  | ledStore
  | ledOe
deriving DecidableEq, Repr

/-- What a control line holds: a level, or no defined level (R22; after reset R30 and after a fault R158). -/
inductive Level
  | undriven
  | low
  | high
deriving DecidableEq, Repr

/-- The levels of the five lines. -/
@[ext]
structure Lines where
  swLoad   : Level
  swCsN    : Level
  ledMr    : Level
  ledStore : Level
  ledOe    : Level
deriving DecidableEq, Repr

/-- No line has a defined level (R30, R158). -/
def Lines.undriven : Lines := ⟨.undriven, .undriven, .undriven, .undriven, .undriven⟩

/-- `cause` (10_state.md R20): 0 or 1; the reserved values 2 and 3 are never written (93_implementation_defined.md U8). -/
inductive Cause
  | noFault
  | linkRd
deriving DecidableEq, Repr

/-- An entry of the trace (10_state.md R29). -/
inductive TraceEvent
  /-- `LineSet(L, v)`. -/
  | lineSet (l : Line) (v : Bool)
  /-- `LinesReset(levels)` (43_init.md R141). -/
  | linesReset (levels : Lines)
  /-- `Open(ok)`. -/
  | opened (ok : Bool)
  /-- `Read(n, cnt, bytes)`. -/
  | read (n : Nat) (cnt : Int) (bytes : List Byte)
  /-- `Write(bs, cnt)`. -/
  | write (bs : List Byte) (cnt : Int)
  /-- `Delay(t)`. -/
  | delay (t : Duration)
  /-- `RxByte(x)`, at the byte level (41_switch_read.md R108). -/
  | rxByte (x : Byte)
  /-- `RxBit(v)`, at the bit level (R110). -/
  | rxBit (v : Bool)
  /-- `RxEnd` (R108, R110). -/
  | rxEnd
  /-- `TxByte(x)`, at the byte level (42_led_write.md R127). -/
  | txByte (x : Byte)
  /-- `TxBit`, at the bit level, with the bit put on serial data out (R128). -/
  | txBit (v : Bool)
  /-- `TxEnd` (R127, R128). -/
  | txEnd
deriving DecidableEq, Repr

/-- An entry of the log (10_state.md R29). -/
inductive LogEntry
  /-- `ShortWrite(cnt)` (42_led_write.md R124). -/
  | shortWrite (cnt : Int)
  /-- `InitFail` (43_init.md R146). -/
  | initFail
  /-- `LinkFault(cause, cnt)` (60_exceptions.md R157). -/
  | linkFault (cause : Cause) (cnt : Int)
deriving DecidableEq, Repr

/-- A `Done(res)` event (30_encoding.md R67). -/
inductive Done
  /-- NOP: no result. -/
  | nop
  /-- INIT: `ok`. -/
  | init (ok : Bool)
  /-- RDSW: `(addr, cmd)`. -/
  | rdsw (addr : Word16) (cmd : Byte)
  /-- WRLED: `short`. -/
  | wrled (short : Bool)
deriving DecidableEq, Repr

/-- The output of a pure function that a frame row or a table row of the opcode table asked for (log entry 10). -/
inductive Evaluated
  /-- Table entry: the index and `T` of it (40_transform.md R80). -/
  | nibble (x y : Nibble)
  /-- PARSE24 of a switch frame (R89). -/
  | parsed (addr : Word16) (cmd : Byte)
  /-- PACK32 and SER32 of an LED frame (R90, R91). -/
  | packed (w : Word32) (bs : List Byte)
  /-- The low 24 bits of the LED word and SER24 (30_encoding.md R65, 40_transform.md R92). -/
  | packed3 (w : Word24) (bs : List Byte)
deriving DecidableEq, Repr

/-- The receive registers. -/
@[ext]
structure Rx where
  /-- `rx_shift` (10_state.md R11). -/
  shift : Byte
  /-- `rx_buf[0]` (R12). -/
  buf0  : Byte
  /-- `rx_buf[1]` (R12). -/
  buf1  : Byte
  /-- `rx_buf[2]` (R12). -/
  buf2  : Byte
  /-- `rx_bitc` (R17). -/
  bitc  : BitVec 3
  /-- `rx_bytec` (R17), 0 to 4. -/
  bytec : Fin 5
deriving DecidableEq, Repr

/-- The transmit registers. -/
@[ext]
structure Tx where
  /-- `tx_word` (10_state.md R14). -/
  word  : Word32
  /-- `tx_shift` (R15). -/
  shift : Byte
  /-- `tx_bitc` (R18). -/
  bitc  : BitVec 3
  /-- `tx_bytec` (R18), 0 to 4. -/
  bytec : Fin 5
  /-- The model's own: the count of the last write, the variable `cnt` of 42_led_write.md R122 (log entry 5). -/
  cnt   : Int
deriving DecidableEq, Repr

/-- One answer to `LinkRead(3)`: the count, any integer, and three bytes of which the first `max(0, min(cnt, 3))` are
delivered (20_memory.md R41). -/
structure ReadAnswer where
  cnt : Int
  b0  : Byte
  b1  : Byte
  b2  : Byte
deriving DecidableEq, Repr

/-- The Link's answers still to come, oldest first, one queue per primitive (30_encoding.md R72; log entry 1). -/
structure Link where
  opens  : List Bool
  reads  : List ReadAnswer
  writes : List Int
deriving DecidableEq, Repr

/-- The Host of the document (60_exceptions.md R170, R171; log entry 18). -/
structure Dispatcher where
  lastCommand : Byte
  busValue    : Word16
  /-- The arguments of the calls of `onCommandChanged`, oldest first. -/
  callbacks   : List Byte
deriving DecidableEq, Repr

/-- What reaches the block from outside, or lets it go on by itself (log entry 13). -/
inductive Event
  /-- The Host's request, run as one big step: the normative unit (00_scope.md R3). -/
  | start (r : Request)
  /-- The Host's `Start`, to be run phase by phase (41_switch_read.md R107, 42_led_write.md R127, 43_init.md R148). -/
  | startFine (op : OpCode) (st d : Byte) (b : Word16)
  /-- Nothing arrives; a busy block takes its next phase. -/
  | tick
  /-- The Link delivers a byte (R108). -/
  | rxByte (x : Byte)
  /-- The Link delivers a bit (R110). -/
  | rxBit (v : Bool)
  /-- The Link ends a read (R108, R110). -/
  | rxEnd
  /-- The Link takes the byte it is offered (42_led_write.md R127). -/
  | txByte
  /-- The Link takes the next bit (R128). -/
  | txBit
  /-- The Link ends a write early (R127, R128). -/
  | txEnd
  /-- One poll of the Host (60_exceptions.md R171). -/
  | poll
  /-- Reset (70_reset_and_hazards.md R185). -/
  | rst
deriving DecidableEq, Repr

/-- The whole state (10_state.md R10): what the spec gives the machine, and the model's own fields after it. -/
@[ext]
structure State where
  /-- `rx_shift`, `rx_buf`, `rx_bitc`, `rx_bytec` (R11, R12, R17). -/
  rx         : Rx
  /-- `sw_addr` (R13). -/
  swAddr     : Word16
  /-- `sw_cmd` (R13). -/
  swCmd      : Byte
  /-- `tx_word`, `tx_shift`, `tx_bitc`, `tx_bytec` (R14, R15, R18). -/
  tx         : Tx
  /-- `ph` (R16). -/
  ph         : Phase
  /-- `frame_valid` (R19). -/
  frameValid : Bool
  /-- `link_open` (R19). -/
  linkOpen   : Bool
  /-- `init_ok` (R19). -/
  initOk     : Bool
  /-- `wr_short` (R19). -/
  wrShort    : Bool
  /-- `fault` (R19). -/
  fault      : Bool
  /-- `cause` (R20). -/
  cause      : Cause
  /-- The five control lines (R22). -/
  lines      : Lines
  /-- The trace (R29), oldest first. -/
  trace      : List TraceEvent
  /-- The log (R29), oldest first. -/
  log        : List LogEntry
  /-- The `Done` events so far, oldest first (30_encoding.md R67; log entry 19). -/
  results    : List Done
  /-- The outputs of pure functions so far, oldest first (log entry 10). -/
  observed   : List Evaluated
  /-- The parameters of 00_scope.md R6: constants, which no step changes (log entry 2). -/
  params     : Params
  /-- The Link's answers still to come (log entry 1). -/
  link       : Link
  /-- The counter of the free values (log entry 1). -/
  draws      : Nat
  /-- The Host's own values (R170). -/
  dispatcher : Dispatcher
  /-- What reaches the block next, oldest first (log entry 13). -/
  events     : List Event
deriving DecidableEq, Repr

/-- Why the machine stops with a fault: never. The spec's one fatal condition, the link fault, is a state that the machine
goes on to (60_exceptions.md R158), and no other condition exists (R155); so this type has no constructor. -/
inductive Fault : Type
deriving DecidableEq, Repr

/-- Why a request is given no meaning. -/
inductive Refusal
  /-- Raised by an arm of `exec` for an instruction without a meaning; no arm does. Safe. -/
  | notModelled (mnemonic : String)
  /-- Raised by `step` where the next request is no word of its format: all four codes and all frames are legal
  (30_encoding.md R68, R69), so only the byte container can be wrong (log entry 11). Safe. -/
  | undecodable (e : DecodeError)
deriving DecidableEq, Repr

/-- The state after reset (10_state.md R30). The spec gives `sw_addr`, `sw_cmd`, `rx_shift`, `rx_buf`, `tx_word` and
`tx_shift` no value: they are 0 here, DESIGN CHOICE, log entry 4. The parameters are R6's defaults. -/
def State.reset : State where
  rx := ⟨0, 0, 0, 0, 0, 0⟩
  swAddr := 0
  swCmd := 0
  tx := ⟨0, 0, 0, 0, 0⟩
  ph := .idle
  frameValid := false
  linkOpen := false
  initOk := false
  wrShort := false
  fault := false
  cause := .noFault
  lines := Lines.undriven
  trace := []
  log := []
  results := []
  observed := []
  params := Params.default
  link := ⟨[], [], []⟩
  draws := 0
  dispatcher := ⟨0, 0, []⟩
  events := []

end Sys2Proof.Machine
end

