-- ==== Sys2Proof/Machine/Operands.lean ====
section
/-! DEFINITION. The operand functions: assembly and splitting of the switch word, the nibbles of rawAddress, packing and
serialising of the LED word. All are pure (40_transform.md R88). -/

namespace Sys2Proof.Machine

/-- ASM24 (30_encoding.md R61): the 24-bit switch word from its three wire bytes, the first the low byte. -/
def asm24 (b0 b1 b2 : Byte) : Word24 :=
  b0.setWidth 24 ||| (b1.setWidth 24 <<< 8) ||| (b2.setWidth 24 <<< 16)

/-- The cmd of a switch word: its top byte, as it is (SPLIT24, R62). -/
def splitCmd (raw24 : Word24) : Byte := raw24.extractLsb' 16 8

/-- The rawAddress of a switch word (SPLIT24, R62). -/
def splitRaw (raw24 : Word24) : Word16 := raw24.extractLsb' 0 16

/-- Nibble `k` of a 16-bit value, `r[4k+3:4k]` (00_scope.md R7, 30_encoding.md R63). -/
def nibble (r : Word16) (k : Nat) : Nibble := r.extractLsb' (4 * k) 4

/-- PACK32 (40_transform.md R90). -/
def pack32 (st d : Byte) (b : Word16) : Word32 :=
  (st.setWidth 32 <<< 24) ||| (d.setWidth 32 <<< 16) ||| b.setWidth 32

/-- Byte `k` of the LED word, `w[8k+7:8k]` (20_memory.md R46). -/
def ledByte (w : Word32) (k : Nat) : Byte := w.extractLsb' (8 * k) 8

/-- SER32 (R91): low byte first. -/
def ser32 (w : Word32) : List Byte := [ledByte w 0, ledByte w 1, ledByte w 2, ledByte w 3]

/-- SER24 (R92): the first three bytes of SER32. -/
def ser24 (w : Word32) : List Byte := [ledByte w 0, ledByte w 1, ledByte w 2]

/-- SER (R92): the byte list of an LED frame under the parameter `LED_FRAME_BYTES`. -/
def ser (n : LedFrameBytes) (w : Word32) : List Byte :=
  match n with
  | .four => ser32 w
  | .three => ser24 w

/-- The word of `frame24led`: the low 24 bits of the LED word, data over bus (30_encoding.md R65). -/
def pack24 (d : Byte) (b : Word16) : Word24 := (pack32 0 d b).setWidth 24

/-- SER24 on the 24-bit word of `frame24led`. -/
def ser24led (w : Word24) : List Byte := [w.extractLsb' 0 8, w.extractLsb' 8 8, w.extractLsb' 16 8]

end Sys2Proof.Machine
end

