-- ==== Sys2Proof/Machine/Transform.lean ====
section
/-! DEFINITION. The nibble-reversal engine, the reorder and the complement (40_transform.md R80 to R89). All are pure
(R88). -/

namespace Sys2Proof.Machine

/-- The table `T` (R80), a read-only constant of the design (10_state.md R24). -/
def tableT : Vector Nibble 16 :=
  #v[0x0, 0x8, 0x4, 0xC, 0x2, 0xA, 0x6, 0xE, 0x1, 0x9, 0x5, 0xD, 0x3, 0xB, 0x7, 0xF]

/-- REV4 (R81): one lookup. -/
def rev4 (x : Nibble) : Nibble := tableT[x.toNat]'x.isLt

/-- MUX4 (R82). -/
def mux4 (s : BitVec 2) (d0 d1 d2 d3 : Nibble) : Nibble :=
  if s = 0 then d0 else if s = 1 then d1 else if s = 2 then d2 else d3

/-- REV4 as the two-level cascade of 4-input multiplexers (R82, decision D7). -/
def rev4Cascade (x : Nibble) : Nibble :=
  let lo := x.extractLsb' 0 2
  let g0 := mux4 lo 0x0 0x8 0x4 0xC
  let g1 := mux4 lo 0x2 0xA 0x6 0xE
  let g2 := mux4 lo 0x1 0x9 0x5 0xD
  let g3 := mux4 lo 0x3 0xB 0x7 0xF
  mux4 (x.extractLsb' 2 2) g0 g1 g2 g3

/-- PERM16 (R84): the four reversed nibbles placed crosswise; four engines side by side (R83). -/
def perm16 (r : Word16) : Word16 :=
  ((rev4 (nibble r 0)).setWidth 16 <<< 12) ||| ((rev4 (nibble r 1)).setWidth 16 <<< 8) |||
    ((rev4 (nibble r 2)).setWidth 16 <<< 4) ||| (rev4 (nibble r 3)).setWidth 16

/-- INV16 (R85). -/
def inv16 (p : Word16) : Word16 := ~~~p

/-- DECODE16 (R86). -/
def decode16 (r : Word16) : Word16 := inv16 (perm16 r)

/-- ENCODE16, the forward transform (R87): for tests only, the block never computes it. -/
def encode16 (a : Word16) : Word16 := decode16 a

/-- PARSE24 (R89), on the three bytes of a frame in wire order. -/
def parse24 (b0 b1 b2 : Byte) : Word16 × Byte :=
  (decode16 (splitRaw (asm24 b0 b1 b2)), splitCmd (asm24 b0 b1 b2))

end Sys2Proof.Machine
end

