-- ==== Sys2Proof/Machine/Ops.lean ====
section
/-! DEFINITION. The primitives of the pseudocode (00_scope.md R8): lines, link, trace, log, the link fault, reset. -/

namespace Sys2Proof.Machine

/-- Level `v` of a driven line. -/
def levelOf (v : Bool) : Level := if v then .high else .low

/-- The level of one line. -/
def lineLevel (ls : Lines) (l : Line) : Level :=
  match l with
  | .swLoad => ls.swLoad
  | .swCsN => ls.swCsN
  | .ledMr => ls.ledMr
  | .ledStore => ls.ledStore
  | .ledOe => ls.ledOe

/-- The lines with one line at a level. -/
def setLevel (ls : Lines) (l : Line) (v : Level) : Lines :=
  match l with
  | .swLoad => { ls with swLoad := v }
  | .swCsN => { ls with swCsN := v }
  | .ledMr => { ls with ledMr := v }
  | .ledStore => { ls with ledStore := v }
  | .ledOe => { ls with ledOe := v }

/-- Append one event to the trace (R8). -/
def emit (e : TraceEvent) (s : State) : State := { s with trace := s.trace ++ [e] }

/-- `Log(e)` (R8). -/
def logEntry (e : LogEntry) (s : State) : State := { s with log := s.log ++ [e] }

/-- `ph <- p` (R8). -/
def setPh (p : Phase) (s : State) : State := { s with ph := p }

/-- `Line[L] <- v` (R8): drive the line and record it. -/
def driveLine (l : Line) (v : Bool) (s : State) : State :=
  { s with lines := setLevel s.lines l (levelOf v), trace := s.trace ++ [.lineSet l v] }

/-- `Delay(t)` (R8): no effect on the state. -/
def delayFor (t : Duration) (s : State) : State := emit (.delay t) s

/-- `return v` (R8): `Done(v)` and `ph <- IDLE` (30_encoding.md R67). -/
def complete (d : Done) (s : State) : State := { s with results := s.results ++ [d], ph := .idle }

/-- The output of a pure function, shown to the one who asked: nothing of the block changes (40_transform.md R88; log
entry 10). -/
def observe (v : Evaluated) (s : State) : State := { s with observed := s.observed ++ [v] }

/-- A `Start` is accepted only in IDLE; anywhere else it is ignored: no change, no event, no `Done` (30_encoding.md R66;
busy: log entry 9). -/
def ifAccepted (body : State → State) (s : State) : State := if s.ph = .idle then body s else s

/-! ### The five lines -/

/-- The safe levels (10_state.md R22, 43_init.md R141). -/
def safeLines (p : Params) : Lines where
  swLoad := levelOf Config.safeStrobe
  swCsN := levelOf Config.safeStrobe
  ledMr := levelOf p.safeLedMr
  ledStore := levelOf Config.safeStrobe
  ledOe := levelOf p.safeLedOe

/-- `LinesReset` (R141): one trace event, all five lines at their safe levels. -/
def linesReset (s : State) : State :=
  { s with lines := safeLines s.params, trace := s.trace ++ [.linesReset (safeLines s.params)] }

/-! ### The link primitives (20_memory.md R40 to R44) -/

/-- Each use of a free value moves the counter past the indexes it may have read. -/
def drawsPerUse : Nat := 4

/-- The Link's next answer to `LinkOpen`: any Boolean (R43). It does not depend on `cfg`. -/
def openAnswer (_cfg : SerialCfg) (s : State) : Bool :=
  match s.link.opens with
  | ok :: _ => ok
  | [] => Config.freeOpen s.draws

/-- `LinkOpen(cfg)` (R8, R43): `link_open` takes the answer. -/
def linkOpenDevice (cfg : SerialCfg) (s : State) : State :=
  { s with
    linkOpen := openAnswer cfg s
    link := { s.link with opens := s.link.opens.tail }
    draws := s.draws + drawsPerUse
    trace := s.trace ++ [.opened (openAnswer cfg s)] }

/-- The Link's next answer to a read: any count and any bytes (R41). -/
def nextRead (s : State) : ReadAnswer :=
  match s.link.reads with
  | a :: _ => a
  | [] => ⟨Config.freeCount s.draws, Config.freeByte s.draws, Config.freeByte (s.draws + 1),
      Config.freeByte (s.draws + 2)⟩

/-- What `LinkRead(3)` answers: with `link_open = 0` the Link is not reached and the answer is `(0, [])` (R44). -/
def readAnswer (s : State) : ReadAnswer := if s.linkOpen then nextRead s else ⟨0, 0, 0, 0⟩

/-- The bytes an answer delivers: `max(0, min(cnt, 3))` of them (R41). -/
def deliveredBytes (a : ReadAnswer) : List Byte :=
  [a.b0, a.b1, a.b2].take (max 0 (min a.cnt Config.rxFrameBytes)).toNat

/-- The counter of the free values after a read or a write: it moves where the Link was reached. -/
def drawsAfter (s : State) : Nat := if s.linkOpen then s.draws + drawsPerUse else s.draws

/-- The Link's queues after a read: its answer is consumed where it was reached. -/
def linkAfterRead (s : State) : Link := if s.linkOpen then { s.link with reads := s.link.reads.tail } else s.link

/-- `LinkRead(3)` (R8, R41, R44), recorded. -/
def linkRead (s : State) : State :=
  { s with
    link := linkAfterRead s
    draws := drawsAfter s
    trace := s.trace ++ [.read Config.rxFrameBytes (readAnswer s).cnt (deliveredBytes (readAnswer s))] }

/-- The number of bytes of an LED frame, as the integer a count is compared with (R94). -/
def ledFrameCount (s : State) : Int := s.params.ledFrameBytes.count

/-- The bytes of the LED frame of `tx_word` (40_transform.md R92). -/
def txBytes (s : State) : List Byte := ser s.params.ledFrameBytes s.tx.word

/-- The Link's next answer to a write: any count (R42). -/
def nextWrite (s : State) : Int :=
  match s.link.writes with
  | cnt :: _ => cnt
  | [] => Config.freeCount s.draws

/-- What `LinkWrite(bs)` answers: with `link_open = 0` the Link is not reached and the answer is 0 (R44). -/
def writeAnswer (s : State) : Int := if s.linkOpen then nextWrite s else 0

/-- A byte counter after `n` bytes: it counts 0 to 4 and stays at 4 (10_state.md R17, R18). -/
def byteCount (n : Nat) : Fin 5 := ⟨min n 4, Nat.lt_succ_of_le (Nat.min_le_right n 4)⟩

/-- The hidden transmit registers after a write of `cnt` bytes in one go: after a full write they are as eight `TxBit` per
byte leave them (42_led_write.md R128, R129); after any other count the Link may have stopped inside a byte, so `tx_shift`
and `tx_bitc` are free values, and so is `tx_bytec` where `cnt` is no number of bytes of the frame (log entry 7). -/
def txAfterWrite (cnt : Int) (s : State) : Tx :=
  if cnt = ledFrameCount s then
    { s.tx with shift := 0, bitc := 0, bytec := byteCount s.params.ledFrameBytes.count, cnt := cnt }
  else
    { s.tx with
      shift := Config.freeByte s.draws
      bitc := Config.freeBitc s.draws
      bytec := if 0 ≤ cnt ∧ cnt < ledFrameCount s then byteCount cnt.toNat else Config.freeBytec s.draws
      cnt := cnt }

/-- The transmit registers after `LinkWrite`: with `link_open = 0` no byte was moved, so only the count is new. -/
def txAfterLinkWrite (s : State) : Tx := if s.linkOpen then txAfterWrite (writeAnswer s) s else { s.tx with cnt := 0 }

/-- The Link's queues after a write: its answer is consumed where it was reached. -/
def linkAfterWrite (s : State) : Link := if s.linkOpen then { s.link with writes := s.link.writes.tail } else s.link

/-- `LinkWrite(SER(tx_word))` (R8, R42, R44), recorded. -/
def linkWrite (s : State) : State :=
  { s with
    tx := txAfterLinkWrite s
    link := linkAfterWrite s
    draws := drawsAfter s
    trace := s.trace ++ [.write (txBytes s) (writeAnswer s)] }

/-! ### The link fault and reset -/

/-- The receive registers after a link fault: unspecified, so free values (R102, R158; log entry 6). -/
def rxAfterFault (s : State) : Rx where
  shift := Config.freeByte s.draws
  buf0 := Config.freeByte (s.draws + 1)
  buf1 := Config.freeByte (s.draws + 2)
  buf2 := Config.freeByte (s.draws + 3)
  bitc := Config.freeBitc s.draws
  bytec := Config.freeBytec s.draws

/-- `raise LinkFault(CAUSE_LINK_RD)` (60_exceptions.md R158), all at once. There is no return (R159): only reset leaves
HALT. -/
def raiseLinkFault (cnt : Int) (s : State) : State :=
  { s with
    fault := true
    cause := .linkRd
    log := s.log ++ [.linkFault .linkRd cnt]
    ph := .halt
    rx := rxAfterFault s
    lines := Lines.undriven
    draws := s.draws + drawsPerUse }

/-- `rst` (70_reset_and_hazards.md R185): the state of R30, whatever the block was doing. What is not the block's stays:
the parameters, the Link's answers and the counter of the free values, the Host's values, and what reaches the block next
(log entry 19). -/
def applyReset (s : State) : State :=
  { State.reset with
    params := s.params
    link := s.link
    draws := s.draws
    dispatcher := s.dispatcher
    events := s.events }

end Sys2Proof.Machine
end

