-- ==== Sys2Proof/Machine/Flags.lean ====
section
/-! DEFINITION. The flags and the status view (10_state.md R19 to R21), and the rule of `wr_short`. -/

namespace Sys2Proof.Machine

/-- `busy` (R19). -/
def busy (s : State) : Bool := s.ph != .idle && s.ph != .halt

/-- The 2-bit code of `cause` (R20). -/
def causeBits : Cause → BitVec 2
  | .noFault => 0
  | .linkRd => 1

/-- The status view (R21): `cause`, `fault`, `wr_short`, `link_open`, `init_ok`, `frame_valid`, `busy`, the last at bit 0. -/
def statusView (s : State) : Byte :=
  causeBits s.cause ++ BitVec.ofBool s.fault ++ BitVec.ofBool s.wrShort ++ BitVec.ofBool s.linkOpen ++
    BitVec.ofBool s.initOk ++ BitVec.ofBool s.frameValid ++ BitVec.ofBool (busy s)

/-- A count other than `LED_FRAME_BYTES`, compared as an integer (42_led_write.md R124). -/
def isShort (cnt : Int) (s : State) : Bool := cnt != ledFrameCount s

/-- Step 6 of a write (R122, R124): on a short write the flag and a log entry. -/
def checkShort (s : State) : State :=
  if isShort s.tx.cnt s then
    { s with wrShort := true, log := s.log ++ [.shortWrite s.tx.cnt] }
  else s

end Sys2Proof.Machine
end

