-- ==== Sys2Proof/Machine/SwitchRead.lean ====
section
/-! DEFINITION. RDSW: the switch read (41_switch_read.md R100 to R106), as one big step. -/

namespace Sys2Proof.Machine

/-- Steps 1 to 3 of R101: select, and pulse the load strobe. -/
def selectAndLoad (s : State) : State :=
  driveLine .swLoad true (driveLine .swLoad false (driveLine .swCsN false s))

/-- Step 6 of R101: the three bytes of a read of count 3 into the receive registers. -/
def storeFrame (a : ReadAnswer) (s : State) : State :=
  { s with rx := { s.rx with buf0 := a.b0, buf1 := a.b1, buf2 := a.b2, bytec := 3, bitc := 0 } }

/-- PARSE24 of the three bytes held in `rx_buf` (R104). -/
def parsedFrame (s : State) : Word16 × Byte := parse24 s.rx.buf0 s.rx.buf1 s.rx.buf2

/-- The commit (step 9 of R101, R104): `sw_addr`, `sw_cmd` and `frame_valid` together, from `rx_buf`. -/
def commitFrame (s : State) : State :=
  { s with swAddr := (parsedFrame s).1, swCmd := (parsedFrame s).2, frameValid := true }

/-- Steps 7 to 10 of R101: deselect (R103), commit, and the result. -/
def finishRead (s : State) : State :=
  let s1 := commitFrame (driveLine .swCsN true s)
  complete (.rdsw s1.swAddr s1.swCmd) s1

/-- Steps 5 and 6 of R101 on the answer of the read: exactly 3 is accepted, any other integer is the link fault (R102). -/
def acceptRead (a : ReadAnswer) (ok : State → State) (s : State) : State :=
  if a.cnt = Config.rxFrameBytes then ok (storeFrame a s) else raiseLinkFault a.cnt s

/-- R101, whole. -/
def readSwitches (s : State) : State :=
  let s1 := selectAndLoad s
  acceptRead (readAnswer s1) finishRead (linkRead s1)

/-- RDSW. -/
def execRdsw (s : State) : Host.Outcome State Fault Refusal := .next (ifAccepted readSwitches s)

end Sys2Proof.Machine
end

