-- ==== Sys2Proof/Machine/LedWrite.lean ====
section
/-! DEFINITION. WRLED: the status write (42_led_write.md R120 to R126, R130), as one big step. -/

namespace Sys2Proof.Machine

/-- Step 1 of R122 (R121): the operands, packed when the `Start` is accepted; `wr_short` starts anew (R124). -/
def latchOperands (st d : Byte) (b : Word16) (s : State) : State :=
  { s with tx := { s.tx with word := pack32 st d b }, wrShort := false }

/-- Step 2 of R122, and the counters cleared on entry to the write phase (10_state.md R18). -/
def strobeLow (s : State) : State :=
  let s1 := driveLine .ledStore false s
  { s1 with tx := { s1.tx with bitc := 0, bytec := 0 } }

/-- Steps 5 and 6 of R122. -/
def strobeHighAndCheck (s : State) : State := checkShort (driveLine .ledStore true s)

/-- Steps 1 to 6 of R122: the body that WRLED and INIT's `write_pattern` share (43_init.md R143). -/
def writeBody (st d : Byte) (b : Word16) (s : State) : State :=
  strobeHighAndCheck (linkWrite (strobeLow (latchOperands st d b s)))

/-- R122, whole. -/
def writeStatus (st d : Byte) (b : Word16) (s : State) : State :=
  let s1 := writeBody st d b s
  complete (.wrled s1.wrShort) s1

/-- WRLED. -/
def execWrled (st d : Byte) (b : Word16) (s : State) : Host.Outcome State Fault Refusal :=
  .next (ifAccepted (writeStatus st d b) s)

end Sys2Proof.Machine
end

