-- ==== Sys2Proof/Machine/Init.lean ====
section
/-! DEFINITION. INIT (43_init.md R140 to R147), as one big step, and NOP (R149). -/

namespace Sys2Proof.Machine

/-- `write_pattern(P)` (R143). -/
def writePattern (p : Pattern) (s : State) : State := writeBody p.status p.data p.bus s

/-- Steps 1 and 2 of R140. -/
def clearAndResetLines (s : State) : State := linesReset { s with initOk := false }

/-- The failing end of INIT (step 4 of R140, R146): logged, result 0, not fatal. -/
def failInit (s : State) : State := complete (.init false) (logEntry .initFail s)

/-- The successful end of INIT (step 8 of R140, R145). -/
def succeedInit (s : State) : State := complete (.init true) { s with initOk := true }

/-- Steps 5 to 7 of R140: the diagnostic patterns, with the settle delay between them (R144). -/
def showPatterns (s : State) : State :=
  writePattern s.params.diagAlt (delayFor .settleDelay (writePattern s.params.diagAllOn s))

/-- R140, whole. -/
def initializeHardware (s : State) : State :=
  let s1 := clearAndResetLines s
  let s2 := linkOpenDevice Config.serialCfg s1
  if s2.linkOpen then succeedInit (showPatterns s2) else failInit s2

/-- INIT. -/
def execInit (s : State) : Host.Outcome State Fault Refusal := .next (ifAccepted initializeHardware s)

/-- NOP (R149): `Done` at once and nothing else. -/
def execNop (s : State) : Host.Outcome State Fault Refusal := .next (ifAccepted (complete .nop) s)

end Sys2Proof.Machine
end

