-- ==== Sys2Proof/Machine/Frames.lean ====
section
/-! DEFINITION. The frame rows of the opcode table: each stands for the pure function that the spec gives the frame
(opcode_table.json, `note`), evaluated for an observer. They read and write no state of the block and cannot fault
(40_transform.md R88); the output goes to the model's own list (log entry 10). -/

namespace Sys2Proof.Machine

/-- SWFRAME (30_encoding.md R60): PARSE24 of the frame (R89), the low byte of rawAddress first on the wire. -/
def execSwframe (c h l : Byte) (s : State) : Host.Outcome State Fault Refusal :=
  .next (observe (.parsed (parse24 l h c).1 (parse24 l h c).2) s)

/-- LEDFRAME (R64): PACK32 and SER32 (40_transform.md R90, R91). DESIGN CHOICE, log entry 10: the row is evaluated whatever
`LED_FRAME_BYTES` is. -/
def execLedframe (st d : Byte) (b : Word16) (s : State) : Host.Outcome State Fault Refusal :=
  .next (observe (.packed (pack32 st d b) (ser32 (pack32 st d b))) s)

/-- LEDFRAME3 (R65): the low 24 bits of the LED word, and SER24 (R92). DESIGN CHOICE, log entry 10: the spec uses this frame
only with `LED_FRAME_BYTES = 3` and does not say what the row is with 4; it is evaluated whatever the parameter is. -/
def execLedframe3 (d : Byte) (b : Word16) (s : State) : Host.Outcome State Fault Refusal :=
  .next (observe (.packed3 (pack24 d b) (ser24led (pack24 d b))) s)

end Sys2Proof.Machine
end

