-- ==== Sys2Proof/Machine/Lookup.lean ====
section
/-! DEFINITION. The sixteen entries of the reversal table as rows of the opcode table: each is one lookup (40_transform.md
R80, R81), evaluated for an observer. They read and write no state of the block and cannot fault (R88; log entry 10). -/

namespace Sys2Proof.Machine

/-- One lookup, and its output. -/
def lookup (x : Nibble) (s : State) : State := observe (.nibble x (rev4 x)) s

/-- REV4_0: entry 0x0 of `T` (R80). -/
def execRev4_0 (s : State) : Host.Outcome State Fault Refusal := .next (lookup 0x0 s)

/-- REV4_1: entry 0x1 of `T` (R80). -/
def execRev4_1 (s : State) : Host.Outcome State Fault Refusal := .next (lookup 0x1 s)

/-- REV4_2: entry 0x2 of `T` (R80). -/
def execRev4_2 (s : State) : Host.Outcome State Fault Refusal := .next (lookup 0x2 s)

/-- REV4_3: entry 0x3 of `T` (R80). -/
def execRev4_3 (s : State) : Host.Outcome State Fault Refusal := .next (lookup 0x3 s)

/-- REV4_4: entry 0x4 of `T` (R80). -/
def execRev4_4 (s : State) : Host.Outcome State Fault Refusal := .next (lookup 0x4 s)

/-- REV4_5: entry 0x5 of `T` (R80). -/
def execRev4_5 (s : State) : Host.Outcome State Fault Refusal := .next (lookup 0x5 s)

/-- REV4_6: entry 0x6 of `T` (R80). -/
def execRev4_6 (s : State) : Host.Outcome State Fault Refusal := .next (lookup 0x6 s)

/-- REV4_7: entry 0x7 of `T` (R80). -/
def execRev4_7 (s : State) : Host.Outcome State Fault Refusal := .next (lookup 0x7 s)

/-- REV4_8: entry 0x8 of `T` (R80). -/
def execRev4_8 (s : State) : Host.Outcome State Fault Refusal := .next (lookup 0x8 s)

/-- REV4_9: entry 0x9 of `T` (R80). -/
def execRev4_9 (s : State) : Host.Outcome State Fault Refusal := .next (lookup 0x9 s)

/-- REV4_A: entry 0xA of `T` (R80). -/
def execRev4_A (s : State) : Host.Outcome State Fault Refusal := .next (lookup 0xA s)

/-- REV4_B: entry 0xB of `T` (R80). -/
def execRev4_B (s : State) : Host.Outcome State Fault Refusal := .next (lookup 0xB s)

/-- REV4_C: entry 0xC of `T` (R80). -/
def execRev4_C (s : State) : Host.Outcome State Fault Refusal := .next (lookup 0xC s)

/-- REV4_D: entry 0xD of `T` (R80). -/
def execRev4_D (s : State) : Host.Outcome State Fault Refusal := .next (lookup 0xD s)

/-- REV4_E: entry 0xE of `T` (R80). -/
def execRev4_E (s : State) : Host.Outcome State Fault Refusal := .next (lookup 0xE s)

/-- REV4_F: entry 0xF of `T` (R80). -/
def execRev4_F (s : State) : Host.Outcome State Fault Refusal := .next (lookup 0xF s)

end Sys2Proof.Machine
end

