-- ==== Sys2Proof/Machine/Dispatch.lean ====
section
/-! DEFINITION. exec: one arm per constructor of Instr, each one call of its meaning. -/

namespace Sys2Proof.Machine

def exec (i : Instr) (s : State) : Host.Outcome State Fault Refusal :=
  match i with
  | .nop => Sys2Proof.Machine.execNop s
  | .init => Sys2Proof.Machine.execInit s
  | .rdsw => Sys2Proof.Machine.execRdsw s
  | .wrled st d b => Sys2Proof.Machine.execWrled st d b s
  | .swframe c h l => Sys2Proof.Machine.execSwframe c h l s
  | .ledframe st d b => Sys2Proof.Machine.execLedframe st d b s
  | .ledframe3 d b => Sys2Proof.Machine.execLedframe3 d b s
  | .rev4_0 => Sys2Proof.Machine.execRev4_0 s
  | .rev4_1 => Sys2Proof.Machine.execRev4_1 s
  | .rev4_2 => Sys2Proof.Machine.execRev4_2 s
  | .rev4_3 => Sys2Proof.Machine.execRev4_3 s
  | .rev4_4 => Sys2Proof.Machine.execRev4_4 s
  | .rev4_5 => Sys2Proof.Machine.execRev4_5 s
  | .rev4_6 => Sys2Proof.Machine.execRev4_6 s
  | .rev4_7 => Sys2Proof.Machine.execRev4_7 s
  | .rev4_8 => Sys2Proof.Machine.execRev4_8 s
  | .rev4_9 => Sys2Proof.Machine.execRev4_9 s
  | .rev4_A => Sys2Proof.Machine.execRev4_A s
  | .rev4_B => Sys2Proof.Machine.execRev4_B s
  | .rev4_C => Sys2Proof.Machine.execRev4_C s
  | .rev4_D => Sys2Proof.Machine.execRev4_D s
  | .rev4_E => Sys2Proof.Machine.execRev4_E s
  | .rev4_F => Sys2Proof.Machine.execRev4_F s

end Sys2Proof.Machine
end

