-- ==== Sys2Proof/Machine/Fine.lean ====
section
/-! DEFINITION. The finer levels of the three operations: phase by phase (41_switch_read.md R107, 42_led_write.md R127,
43_init.md R148), byte by byte (R108, R127) and bit by bit (R110, R128). -/

namespace Sys2Proof.Machine

/-! ### Phase by phase -/

/-- A `Start` accepted in IDLE begins its operation at its first phase; NOP completes at once (30_encoding.md R66). -/
def acceptStart (op : OpCode) (st d : Byte) (b : Word16) (s : State) : State :=
  match op with
  | .nop => complete .nop s
  | .init => setPh .in1 { s with initOk := false }
  | .rdsw => setPh .rd1 s
  | .wrled => setPh .wr1 (latchOperands st d b s)

/-- `RD3` (R107): the strobe goes high and the receive counters are cleared (10_state.md R17). -/
def enterReceive (s : State) : State :=
  let s1 := driveLine .swLoad true s
  setPh .rd4 { s1 with rx := { s1.rx with bitc := 0, bytec := 0 } }

/-- A read has begun byte by byte or bit by bit and waits for the Link (log entry 14). -/
def receiving (s : State) : Bool := s.rx.bytec != 0 || s.rx.bitc != 0

/-- A write has begun byte by byte or bit by bit and waits for the Link (log entry 14). -/
def transmitting (s : State) : Bool := s.tx.bytec != 0 || s.tx.bitc != 0

/-- `RD4` (R107): the read completes in one go, unless it is under way at a finer level. -/
def readPhase (s : State) : State :=
  if receiving s then s else acceptRead (readAnswer s) (setPh .rd5) (linkRead s)

/-- `WR2`, `IN4`, `IN8` (R127, R148): the write completes in one go, unless it is under way at a finer level. -/
def writePhase (p : Phase) (s : State) : State :=
  if transmitting s then s else setPh p (linkWrite s)

/-- `IN2` (R148): the device is opened, and INIT fails or goes on. -/
def openPhase (s : State) : State :=
  let s1 := linkOpenDevice Config.serialCfg s
  if s1.linkOpen then setPh .in3 s1 else failInit s1

/-- `IN3`, `IN7` (R148): the first step of a pattern write, its operands latched (log entry 16). -/
def patternPhase (p : Pattern) (next : Phase) (s : State) : State :=
  setPh next (strobeLow (latchOperands p.status p.data p.bus s))

/-- `WR3` (R127). -/
def finishWrite (s : State) : State :=
  let s1 := strobeHighAndCheck s
  complete (.wrled s1.wrShort) s1

/-- One phase of a busy block; an idle or a halted block does nothing (10_state.md R16). -/
def tick (s : State) : State :=
  match s.ph with
  | .idle => s
  | .halt => s
  | .rd1 => setPh .rd2 (driveLine .swCsN false s)
  | .rd2 => setPh .rd3 (driveLine .swLoad false s)
  | .rd3 => enterReceive s
  | .rd4 => readPhase s
  | .rd5 => finishRead s
  | .wr1 => setPh .wr2 (strobeLow s)
  | .wr2 => writePhase .wr3 s
  | .wr3 => finishWrite s
  | .in1 => setPh .in2 (linesReset s)
  | .in2 => openPhase s
  | .in3 => patternPhase s.params.diagAllOn .in4 s
  | .in4 => writePhase .in5 s
  | .in5 => setPh .in6 (strobeHighAndCheck s)
  | .in6 => setPh .in7 (delayFor .settleDelay s)
  | .in7 => patternPhase s.params.diagAlt .in8 s
  | .in8 => writePhase .in9 s
  | .in9 => succeedInit (strobeHighAndCheck s)

/-- `n` phases. -/
def ticks : Nat → State → State
  | 0, s => s
  | n + 1, s => ticks n (tick s)

/-! ### The frame parser, byte by byte and bit by bit -/

/-- A read is waiting for the Link: outside RD4, or with the device not open, data in is ignored (R108, decision D26). -/
def awaitsRead (s : State) : Bool := s.ph == .rd4 && s.linkOpen

/-- `min(n + 1, 4)` (R108). -/
def countByte (n : Fin 5) : Fin 5 := byteCount (n.val + 1)

/-- A whole byte: stored while fewer than 3 have come, counted up to 4 (R108). -/
def takeByte (x : Byte) (rx : Rx) : Rx :=
  { rx with
    buf0 := if rx.bytec = 0 then x else rx.buf0
    buf1 := if rx.bytec = 1 then x else rx.buf1
    buf2 := if rx.bytec = 2 then x else rx.buf2
    bytec := countByte rx.bytec }

/-- `RxByte(x)` (R108). -/
def rxByte (x : Byte) (s : State) : State :=
  if awaitsRead s then emit (.rxByte x) { s with rx := takeByte x s.rx } else s

/-- The deserialiser with one more bit (R110). -/
def shiftIn (o : BitOrder) (v : Bool) (sh : Byte) : Byte :=
  match o with
  | .msbFirst => sh.extractLsb' 0 7 ++ BitVec.ofBool v
  | .lsbFirst => BitVec.ofBool v ++ sh.extractLsb' 1 7

/-- The receive registers after one bit: the eighth makes a byte (R110). -/
def takeBit (o : BitOrder) (v : Bool) (rx : Rx) : Rx :=
  let sh := shiftIn o v rx.shift
  if rx.bitc = 7 then { takeByte sh rx with shift := sh, bitc := 0 }
  else { rx with shift := sh, bitc := rx.bitc + 1 }

/-- `RxBit(v)` (R110). -/
def rxBit (v : Bool) (s : State) : State :=
  if awaitsRead s then emit (.rxBit v) { s with rx := takeBit s.params.bitOrder v s.rx } else s

/-- `RxEnd` (R108, R110): exactly three whole bytes and no partial one is a frame; anything else is the link fault, with the
number of whole bytes as its count (20_memory.md R49; log entry 17). -/
def rxEnd (s : State) : State :=
  if s.ph = .rd4 then
    let s1 := emit .rxEnd s
    if s.rx.bytec = 3 ∧ s.rx.bitc = 0 then setPh .rd5 s1 else raiseLinkFault s.rx.bytec.val s1
  else s

/-! ### The LED encoder, byte by byte and bit by bit -/

/-- The phase after the write phase (R127, R148); no other phase writes. -/
def afterWrite : Phase → Option Phase
  | .wr2 => some .wr3
  | .in4 => some .in5
  | .in8 => some .in9
  | _ => none

/-- The byte the serialiser is at, where a write is under way and the frame is not whole yet. -/
def offeredByte (s : State) : Option Byte :=
  if (afterWrite s.ph).isSome && s.linkOpen then (txBytes s)[s.tx.bytec.val]? else none

/-- The write phase ends with the count `cnt` (R127) and the `Write(bs, cnt)` that all levels share (R129, decision D1). Where it
stands among its parts the spec does not say: after them, DESIGN CHOICE, log entry 22. -/
def endWrite (cnt : Int) (s : State) : State :=
  match afterWrite s.ph with
  | some p => setPh p (emit (.write (txBytes s) cnt) { s with tx := { s.tx with cnt := cnt } })
  | none => s

/-- A whole byte is taken: counted, and with the last of the frame the write is full (R127). -/
def byteTaken (s : State) : State :=
  let s1 := { s with tx := { s.tx with bytec := countByte s.tx.bytec } }
  if (s1.tx.bytec.val : Int) = ledFrameCount s1 then endWrite (ledFrameCount s1) s1 else s1

/-- `TxByte(x)` (R127): the byte is offered and taken; the serialiser is left as its eight bits leave it (R128, R129; log
entry 7). DESIGN CHOICE, log entry 22: a byte is recorded when the Link takes it, and one that is offered but not taken before
`TxEnd` leaves no event. -/
def txByte (s : State) : State :=
  match offeredByte s with
  | some x => byteTaken (emit (.txByte x) { s with tx := { s.tx with shift := 0, bitc := 0 } })
  | none => s

/-- The bit that goes on serial data out (R128). -/
def shiftOutBit (o : BitOrder) (sh : Byte) : Bool :=
  match o with
  | .msbFirst => sh.getLsbD 7
  | .lsbFirst => sh.getLsbD 0

/-- The serialiser with one bit fewer (R128). -/
def shiftOut (o : BitOrder) (sh : Byte) : Byte :=
  match o with
  | .msbFirst => sh.extractLsb' 0 7 ++ 0#1
  | .lsbFirst => 0#1 ++ sh.extractLsb' 1 7

/-- `TxBit` (R128): the first bit of a byte loads the serialiser, the eighth makes the byte count as taken. DESIGN CHOICE, log
entry 24: the load that R128 puts before the eight bits and gives no event happens when the first of them is taken, so a byte
that is offered and of which no bit is taken before `TxEnd` leaves `tx_shift` as it was. -/
def txBit (s : State) : State :=
  match offeredByte s with
  | some x =>
    let sh := if s.tx.bitc = 0 then x else s.tx.shift
    let o := s.params.bitOrder
    let s1 := emit (.txBit (shiftOutBit o sh)) { s with tx := { s.tx with shift := shiftOut o sh, bitc := s.tx.bitc + 1 } }
    if s.tx.bitc = 7 then byteTaken s1 else s1
  | none => s

/-- `TxEnd` (R127, R128): the Link stops first; the count is the number of whole bytes taken. With `link_open = 0` the spec says
only that the sequence is empty and the count 0: that this event may then come, is recorded and ends the phase with the
count `tx_bytec`, 0 since the entry to the phase, is DESIGN CHOICE, log entry 21. -/
def txEnd (s : State) : State :=
  if (afterWrite s.ph).isSome then endWrite s.tx.bytec.val (emit .txEnd s) else s

end Sys2Proof.Machine
end

