-- ==== Sys2Proof/Machine/HostSide.lean ====
section
/-! DEFINITION. The Host's side: the ports (10_state.md R27), the poll (60_exceptions.md R171), the Link script and the
program syntax (30_encoding.md R72). -/

namespace Sys2Proof.Machine

/-- `sw_addr` as the Host reads it: no value while `frame_valid = 0` (R13, R30, 70_reset_and_hazards.md R193). -/
def swAddrPort (s : State) : Option Word16 := if s.frameValid then some s.swAddr else none

/-- `sw_cmd` as the Host reads it. -/
def swCmdPort (s : State) : Option Byte := if s.frameValid then some s.swCmd else none

/-- The level outputs of R27. -/
structure Ports where
  swAddr     : Option Word16
  swCmd      : Option Byte
  frameValid : Bool
  initOk     : Bool
  linkOpen   : Bool
  wrShort    : Bool
  busy       : Bool
  fault      : Bool
  cause      : BitVec 2
  status     : Byte
  lines      : Lines
deriving DecidableEq, Repr

/-- What the ports show (R27): a pure function of the state (R21). -/
def ports (s : State) : Ports where
  swAddr := swAddrPort s
  swCmd := swCmdPort s
  frameValid := s.frameValid
  initOk := s.initOk
  linkOpen := s.linkOpen
  wrShort := s.wrShort
  busy := busy s
  fault := s.fault
  cause := causeBits s.cause
  status := statusView s
  lines := s.lines

/-- The Host's compare after a read (R171): the bus value always, the callback only where `cmd` changed (R172). -/
def dispatch (addr : Word16) (cmd : Byte) (d : Dispatcher) : Dispatcher :=
  if cmd = d.lastCommand then { d with busValue := addr }
  else ⟨cmd, addr, d.callbacks ++ [cmd]⟩

/-- One poll (R171): a switch read and the compare. Where the read is not accepted or ends in the link fault, the poll does
not complete and the Host's values stay (R173). -/
def poll (s : State) : State :=
  let s1 := ifAccepted readSwitches s
  if s.ph = .idle ∧ s1.ph = .idle then
    { s1 with dispatcher := dispatch s1.swAddr s1.swCmd s1.dispatcher }
  else s1

/-- One answer of a Link script (R72). -/
inductive LinkAnswer
  /-- `open: true|false`. -/
  | opened (ok : Bool)
  /-- `read: (cnt, [bytes])`. -/
  | read (a : ReadAnswer)
  /-- `write: cnt`. -/
  | write (cnt : Int)
deriving DecidableEq, Repr

/-- A script, its answers consumed in order (R72), as the queue of each primitive. -/
def linkOfScript : List LinkAnswer → Link
  | [] => ⟨[], [], []⟩
  | .opened ok :: r => { linkOfScript r with opens := ok :: (linkOfScript r).opens }
  | .read a :: r => { linkOfScript r with reads := a :: (linkOfScript r).reads }
  | .write cnt :: r => { linkOfScript r with writes := cnt :: (linkOfScript r).writes }

/-- One line of a program (R72): an operation, or `POLL`. -/
inductive Stmt
  | op (i : Instr)
  | poll
deriving DecidableEq, Repr

/-- The event that a line of a program is. -/
def stmtEvent : Stmt → Event
  | .op i => .start (encode i)
  | .poll => .poll

/-- A program beside its Link script, placed in a state (R72; log entry 13). -/
def withProgram (prog : List Stmt) (script : List LinkAnswer) (s : State) : State :=
  { s with events := prog.map stmtEvent, link := linkOfScript script }

/-- The text of an operation (R72); the frames and the table rows have none. -/
def asmText : Instr → Option String
  | .nop => some "NOP"
  | .init => some "INIT"
  | .rdsw => some "RDSW"
  | .wrled st d b => some ("WRLED " ++ toString st.toNat ++ ", " ++ toString d.toNat ++ ", " ++ toString b.toNat)
  | .swframe _ _ _ => none
  | .ledframe _ _ _ => none
  | .ledframe3 _ _ => none
  | .rev4_0 => none
  | .rev4_1 => none
  | .rev4_2 => none
  | .rev4_3 => none
  | .rev4_4 => none
  | .rev4_5 => none
  | .rev4_6 => none
  | .rev4_7 => none
  | .rev4_8 => none
  | .rev4_9 => none
  | .rev4_A => none
  | .rev4_B => none
  | .rev4_C => none
  | .rev4_D => none
  | .rev4_E => none
  | .rev4_F => none

end Sys2Proof.Machine
end

