-- ==== Sys2Proof/Machine/Events.lean ====
section
/-! DEFINITION. What the block does with each event but a `Start` run as one big step (that one is `exec`'s). -/

namespace Sys2Proof.Machine

/-- The next event and the state without it; with nothing pending a busy block takes its next phase (log entry 13). -/
def nextEvent (s : State) : Event × State :=
  match s.events with
  | [] => (.tick, s)
  | e :: rest => (e, { s with events := rest })

/-- The request of a big-step `Start`, or what any other event makes of the state. -/
def applyEvent (e : Event) (s : State) : Request ⊕ State :=
  match e with
  | .start r => .inl r
  | .startFine op st d b => .inr (ifAccepted (acceptStart op st d b) s)
  | .tick => .inr (tick s)
  | .rxByte x => .inr (rxByte x s)
  | .rxBit v => .inr (rxBit v s)
  | .rxEnd => .inr (rxEnd s)
  | .txByte => .inr (txByte s)
  | .txBit => .inr (txBit s)
  | .txEnd => .inr (txEnd s)
  | .poll => .inr (poll s)
  | .rst => .inr (applyReset s)

/-- The request of a word of the opcode table, placed before everything else that reaches the block. -/
def placeWord (nbits w : Nat) (s : State) : State :=
  { s with events := .start (tableRequest nbits w) :: s.events }

end Sys2Proof.Machine
end

