-- ==== Sys2Proof/Machine/Step.lean ====
section
/-! DEFINITION. One step: the next event, a `Start` through the decoder and `exec` (00_scope.md R3, 20_memory.md R53). -/

namespace Sys2Proof.Machine

/-- One step of the machine. A request that is no word of its format is refused (log entry 11). -/
def step (s : State) : Host.Outcome State Fault Refusal :=
  match applyEvent (nextEvent s).1 (nextEvent s).2 with
  | .inr s' => .next s'
  | .inl r =>
    match decode r with
    | .ok i => exec i (nextEvent s).2
    | .error e => .refused (.undecodable e)

/-- `s` with the word placed so that the next step runs it (log entries 12 and 13). -/
def State.withFetchWord (s : State) (nbits w : Nat) : State := placeWord nbits w s

end Sys2Proof.Machine
end

