-- ==== Sys2Proof/Safety.lean ====
section
/-! DEFINITION. The terms claims use: what a disciplined Host is, what a run is and how it ends, the invariant of the machine, and the
feeding of bytes and bits at the finer levels. -/

namespace Sys2Proof.Machine

/-- The event that the next step takes. -/
def headEvent (s : State) : Event := (nextEvent s).1

/-- No operation is under way and there was no fault. -/
abbrev AtRest (s : State) : Prop := s.ph = .idle ∧ s.fault = false

/-- INIT has succeeded and no operation is under way: the launch premise of R187 and R188. -/
abbrev Ready (s : State) : Prop :=
  s.ph = .idle ∧ s.fault = false ∧ s.initOk = true ∧ s.linkOpen = true ∧ s.lines = safeLines s.params

/-- The next event is one that a Host that waits for `Done` and stops at a fault may send (R189, R190). -/
def disciplined (s : State) : Bool :=
  match headEvent s with
  | .start _ => s.ph == .idle
  | .startFine _ _ _ _ => s.ph == .idle
  | .poll => s.ph == .idle
  | _ => true

/-! ### Runs (70_reset_and_hazards.md R199; log entry 23) -/

/-- The operation that a row of the opcode table is; the frames and the table entries are none (30_encoding.md R66). -/
def instrOp : Instr → Option OpCode
  | .nop => some .nop
  | .init => some .init
  | .rdsw => some .rdsw
  | .wrled _ _ _ => some .wrled
  | .swframe _ _ _ => none
  | .ledframe _ _ _ => none
  | .ledframe3 _ _ => none
  | .rev4_0 => none
  | .rev4_1 => none
  | .rev4_2 => none
  | .rev4_3 => none
  | .rev4_4 => none
  | .rev4_5 => none
  | .rev4_6 => none
  | .rev4_7 => none
  | .rev4_8 => none
  | .rev4_9 => none
  | .rev4_A => none
  | .rev4_B => none
  | .rev4_C => none
  | .rev4_D => none
  | .rev4_E => none
  | .rev4_F => none

/-- The operation that the Host issues with an event: a `Start` at either level, or the RDSW of a poll (R72). -/
def eventOp : Event → Option OpCode
  | .start r =>
    match decode r with
    | .ok i => instrOp i
    | .error _ => none
  | .startFine op _ _ _ => some op
  | .poll => some .rdsw
  | .tick => none
  | .rxByte _ => none
  | .rxBit _ => none
  | .rxEnd => none
  | .txByte => none
  | .txBit => none
  | .txEnd => none
  | .rst => none

/-- The operation that a `Done` ends (30_encoding.md R67). -/
def Done.op : Done → OpCode
  | .nop => .nop
  | .init _ => .init
  | .rdsw _ _ => .rdsw
  | .wrled _ => .wrled

/-- The operation that has been accepted and has produced no `Done`: the one whose phase this is, or in HALT the RDSW that
raised the link fault (10_state.md R16, 60_exceptions.md R156, R158). -/
def withoutDone : Phase → List OpCode
  | .idle => []
  | .halt => [.rdsw]
  | .rd1 | .rd2 | .rd3 | .rd4 | .rd5 => [.rdsw]
  | .wr1 | .wr2 | .wr3 => [.wrled]
  | .in1 | .in2 | .in3 | .in4 | .in5 | .in6 | .in7 | .in8 | .in9 => [.init]

/-- `Run s0 t ops` (R199): from the state `s0` right after a reset, the Host has issued the operations `ops`, each under R189,
and the machine has come to `t` without another reset. The steps between are the machine's phases and the Link's events. -/
inductive Run (s0 : State) : State → List OpCode → Prop
  /-- The reset. -/
  | start : applyReset s0 = s0 → Run s0 s0 []
  /-- One more step, by an event that a Host under R189 may let come. -/
  | next {s t : State} {ops : List OpCode} : Run s0 s ops → disciplined s = true → headEvent s ≠ .rst → step s = .next t →
      Run s0 t (ops ++ (eventOp (headEvent s)).toList)

/-- The Host has no operation left to issue. -/
abbrev NothingPending (s : State) : Prop := ∀ e ∈ s.events, eventOp e = none

/-- The run of the operations `ops` from `s0` to `t` ENDS WELL (R199): the last operation, and every one before it, has produced
its `Done`, none is left to issue, `ph = IDLE` and `fault = 0`. -/
structure EndsWell (s0 t : State) (ops : List OpCode) : Prop where
  run : Run s0 t ops
  some_operation : ops ≠ []
  all_done : t.results.map Done.op = ops
  nothing_pending : NothingPending t
  at_rest : AtRest t

/-- A run ENDS BADLY (R199). -/
abbrev EndsBadly (s : State) : Prop := s.ph = .halt

/-! ### Sets of phases (10_state.md R16) -/

/-- A phase of INIT. -/
def inInit : Phase → Bool
  | .in1 | .in2 | .in3 | .in4 | .in5 | .in6 | .in7 | .in8 | .in9 => true
  | _ => false

/-- A phase of INIT after the lines were reset. -/
def linesAreReset : Phase → Bool
  | .in2 | .in3 | .in4 | .in5 | .in6 | .in7 | .in8 | .in9 => true
  | _ => false

/-- A phase of INIT after the device opened. -/
def deviceIsOpen : Phase → Bool
  | .in3 | .in4 | .in5 | .in6 | .in7 | .in8 | .in9 => true
  | _ => false

/-- A phase in which the switch register is selected (41_switch_read.md R103). -/
def selecting : Phase → Bool
  | .rd2 | .rd3 | .rd4 | .rd5 => true
  | _ => false

/-- A phase in which the LED store strobe is low (42_led_write.md R122). -/
def strobing : Phase → Bool
  | .wr2 | .wr3 | .in4 | .in5 | .in8 | .in9 => true
  | _ => false

/-- A phase in which a write is under way. -/
def writing : Phase → Bool
  | .wr2 | .in4 | .in8 => true
  | _ => false

/-- The levels of the five lines in each phase once INIT has reset them; no level is known in HALT and IN1. -/
def phaseLines (p : Params) : Phase → Option Lines
  | .halt | .in1 => none
  | .rd2 => some { safeLines p with swCsN := .low }
  | .rd3 => some { safeLines p with swCsN := .low, swLoad := .low }
  | .rd4 | .rd5 => some { safeLines p with swCsN := .low }
  | .wr2 | .wr3 | .in4 | .in5 | .in8 | .in9 => some { safeLines p with ledStore := .low }
  | .idle | .rd1 | .wr1 | .in2 | .in3 | .in6 | .in7 => some (safeLines p)

/-! ### The invariant -/

/-- What holds in every state the machine reaches, and what every step keeps. -/
structure Inv (s : State) : Prop where
  /-- `fault` is set exactly in HALT (60_exceptions.md R158, R159). -/
  fault_iff_halt : s.fault = true ↔ s.ph = .halt
  /-- `cause` is set exactly with `fault` (10_state.md R20). -/
  cause_iff_fault : s.cause = .linkRd ↔ s.fault = true
  /-- In HALT no line has a level (R158). -/
  halt_undriven : s.ph = .halt → s.lines = Lines.undriven
  /-- A successful INIT opened the device (43_init.md R145). -/
  initOk_open : s.initOk = true → s.linkOpen = true
  /-- `init_ok` is 0 while INIT runs (R140). -/
  init_clears : inInit s.ph = true → s.initOk = false
  /-- INIT goes on only with an open device (R148). -/
  init_open : deviceIsOpen s.ph = true → s.linkOpen = true
  /-- The switch register is selected from RD2 to the end of the read (R103). -/
  select_low : selecting s.ph = true → s.lines.swCsN = .low
  /-- The store strobe is low while a frame goes out (20_memory.md R54 (3)). -/
  strobe_low : strobing s.ph = true → s.lines.ledStore = .low
  /-- All five lines are where the phase has them once INIT has reset them, until a fault (R141, R145, R54 (4)). -/
  lines_known : (s.initOk = true ∨ linesAreReset s.ph = true) → s.ph ≠ .halt → phaseLines s.params s.ph = some s.lines
  /-- A write that is under way has not taken the whole frame yet (42_led_write.md R127). -/
  write_room : writing s.ph = true → s.tx.bytec.val < s.params.ledFrameBytes.count
  /-- The commit finds exactly three whole bytes (41_switch_read.md R104, R109). -/
  commit_whole : s.ph = .rd5 → s.rx.bytec = 3 ∧ s.rx.bitc = 0

/-! ### Feeding the finer levels -/

/-- The bits of a byte in wire order (20_memory.md R47). -/
def wireBits (o : BitOrder) (x : Byte) : List Bool :=
  match o with
  | .msbFirst => [x.getLsbD 7, x.getLsbD 6, x.getLsbD 5, x.getLsbD 4, x.getLsbD 3, x.getLsbD 2, x.getLsbD 1, x.getLsbD 0]
  | .lsbFirst => [x.getLsbD 0, x.getLsbD 1, x.getLsbD 2, x.getLsbD 3, x.getLsbD 4, x.getLsbD 5, x.getLsbD 6, x.getLsbD 7]

/-- The Link delivers bytes, the first first. -/
def rxBytes : List Byte → State → State
  | [], s => s
  | x :: xs, s => rxBytes xs (rxByte x s)

/-- The Link delivers bits, the first first. -/
def rxBits : List Bool → State → State
  | [], s => s
  | v :: vs, s => rxBits vs (rxBit v s)

/-- The Link takes `n` bytes. -/
def txByteTimes : Nat → State → State
  | 0, s => s
  | n + 1, s => txByteTimes n (txByte s)

/-- The Link takes `n` bits. -/
def txBitTimes : Nat → State → State
  | 0, s => s
  | n + 1, s => txBitTimes n (txBit s)

end Sys2Proof.Machine
end

