-- ==== Sys2Proof/Certificates/Slice0/Obligations.lean ====
section
/-! DEFINITION. The statements for the provers. Each docstring names the rules of spec/ that the statement formalises; where
a clause rests on a choice of the spec's own (a row D<n> of 92_eei_decisions.md) or of the model's (a log entry), it says so. -/

open Sys2Proof Sys2Proof.Machine

/-! ### Encoding -/

/-- Decoding the encoding of an instruction gives it back, with every operand at every value (30_encoding.md R60, R64, R65,
R66; the byte containers of a `Start` and of a table index are log entry 11, the 3-byte LED frame is decision D6). -/
def Obligations.DecodeOfEncodeIsTheInstruction : Prop :=
  ∀ i : Instr, decode (encode i) = .ok i

/-- The decoder accepts exactly the well-formed requests: no code and no frame is reserved (R68, R69), and the rest is
refused (the container is log entry 11). -/
def Obligations.DecodeAcceptsExactlyTheWellFormed : Prop :=
  ∀ r : Request, (∃ i, decode r = .ok i) ↔ r.wellFormed = true

/-- A frame or a table index is read without loss: encoding what was decoded gives the request back. The one-byte container
of a table index and the refusal of its padding are log entry 11, and the 3-byte LED frame is decision D6. (The requests of
`Start` are left out: NOP, INIT and RDSW ignore their operands, R68, so their requests are not given back; WRLED's is the
statement EncodeOfDecodedWrledIsTheRequest.) -/
def Obligations.EncodeOfDecodedFrameIsTheFrame : Prop :=
  ∀ (r : Request) (i : Instr), decode r = .ok i → r.fmt ≠ .cmd2 → encode i = r

/-- The four codes of `Start` and their operands (R66, R68; the container is log entry 11). -/
def Obligations.StartCodesSelectOperations : Prop :=
  ∀ st d bl bh : Byte,
    decode ⟨.cmd2, [0b00, st, d, bl, bh]⟩ = .ok .nop ∧
    decode ⟨.cmd2, [0b01, st, d, bl, bh]⟩ = .ok .init ∧
    decode ⟨.cmd2, [0b10, st, d, bl, bh]⟩ = .ok .rdsw ∧
    decode ⟨.cmd2, [0b11, st, d, bl, bh]⟩ = .ok (.wrled st d (bh ++ bl))

/-- A few words written out from the spec's encodings of the frames and of the table index (R60, R64, R65, 40_transform.md R80;
the 3-byte LED frame is decision D6). The first is a `Start`: its code and operands are R66's (decision D2), but its layout in
5 bytes, and that of a table index in one byte, are the model's own container, log entry 11. -/
def Obligations.DecodeReadsWordsOfEveryFormat : Prop :=
  decode ⟨.cmd2, [0b11, 0x12, 0x34, 0x78, 0x56]⟩ = .ok (.wrled 0x12 0x34 0x5678) ∧
  decode ⟨.frame24, [0x34, 0x12, 0x56]⟩ = .ok (.swframe 0x56 0x12 0x34) ∧
  decode ⟨.frame32, [0x78, 0x56, 0x34, 0x12]⟩ = .ok (.ledframe 0x12 0x34 0x5678) ∧
  decode ⟨.frame24led, [0x78, 0x56, 0x34]⟩ = .ok (.ledframe3 0x34 0x5678) ∧
  decode ⟨.lut4, [0b1010]⟩ = .ok .rev4_A

/-! ### The step -/

/-- A step whose next event is a request that decodes to `i` is `exec i` on the state without that event. -/
def Obligations.StepRunsTheDecodedRequest : Prop :=
  ∀ (s : State) (r : Request) (rest : List Event) (i : Instr),
    s.events = .start r :: rest → decode r = .ok i → step s = exec i { s with events := rest }

/-- A step whose next event is a request that does not decode is refused, by the decoder's reason (log entry 11). -/
def Obligations.StepRefusesAMalformedRequest : Prop :=
  ∀ (s : State) (r : Request) (rest : List Event) (e : DecodeError),
    s.events = .start r :: rest → decode r = .error e → step s = .refused (.undecodable e)

/-- The word of an opcode-table row, placed by `withFetchWord`, is what the next step runs, and nothing else has changed. -/
def Obligations.StepRunsAPlacedTableWord : Prop :=
  ∀ (s : State) (nbits w : Nat) (i : Instr),
    decodeTableWord nbits w = some i → step (s.withFetchWord nbits w) = exec i s

/-- With nothing arriving, an idle block waits and a halted block does nothing (10_state.md R16, R30; 60_exceptions.md
R158). -/
def Obligations.IdleAndHaltedBlocksWait : Prop :=
  ∀ s : State, s.events = [] → s.ph = .idle ∨ s.ph = .halt → step s = .next s

/-- A step whose next event is anything else is that event's effect on the state without it (00_scope.md R3; the events are
log entry 13). -/
def Obligations.StepAppliesTheOtherEvents : Prop :=
  ∀ (s u : State) (rest : List Event), u = { s with events := rest } →
    (∀ op st d b, s.events = .startFine op st d b :: rest → step s = .next (ifAccepted (acceptStart op st d b) u)) ∧
    (s.events = .tick :: rest → step s = .next (tick u)) ∧
    (∀ x, s.events = .rxByte x :: rest → step s = .next (rxByte x u)) ∧
    (∀ v, s.events = .rxBit v :: rest → step s = .next (rxBit v u)) ∧
    (s.events = .rxEnd :: rest → step s = .next (rxEnd u)) ∧
    (s.events = .txByte :: rest → step s = .next (txByte u)) ∧
    (s.events = .txBit :: rest → step s = .next (txBit u)) ∧
    (s.events = .txEnd :: rest → step s = .next (txEnd u)) ∧
    (s.events = .poll :: rest → step s = .next (poll u)) ∧
    (s.events = .rst :: rest → step s = .next (applyReset u)) ∧
    (s.events = [] → step s = .next (tick s))

/-! ### The transforms -/

/-- The table has the sixteen entries of R80; REV4 is one lookup, the reversal of the four bits, its own inverse, with the
four palindromes as its only fixed points (R81). -/
def Obligations.Rev4IsTheTableAndReversesBits : Prop :=
  tableT.toList = [0x0, 0x8, 0x4, 0xC, 0x2, 0xA, 0x6, 0xE, 0x1, 0x9, 0x5, 0xD, 0x3, 0xB, 0x7, 0xF] ∧
  (∀ x : Nibble, rev4 x = tableT[x.toNat]'x.isLt) ∧
  (∀ (x : Nibble) (j : Fin 4), (rev4 x).getLsbD j.val = x.getLsbD (3 - j.val)) ∧
  (∀ x : Nibble, rev4 x = x ↔ x = 0x0 ∨ x = 0x6 ∨ x = 0x9 ∨ x = 0xF) ∧
  (∀ x : Nibble, rev4 (rev4 x) = x) ∧
  rev4 0xA = 0x5

/-- The two-level cascade of 4-input multiplexers, written out and as the model's `rev4Cascade`, is the table (R82, the spec's
decision D7). -/
def Obligations.MultiplexerCascadeIsTheTable : Prop :=
  ∀ x : Nibble,
    mux4 (x.extractLsb' 2 2)
      (mux4 (x.extractLsb' 0 2) 0x0 0x8 0x4 0xC) (mux4 (x.extractLsb' 0 2) 0x2 0xA 0x6 0xE)
      (mux4 (x.extractLsb' 0 2) 0x1 0x9 0x5 0xD) (mux4 (x.extractLsb' 0 2) 0x3 0xB 0x7 0xF) = rev4 x ∧
    rev4Cascade x = rev4 x

/-- PERM16 places the four reversed nibbles crosswise, by the formula and field by field, with R84's corner cases and
examples. -/
def Obligations.Perm16PlacesReversedNibbles : Prop :=
  (∀ r : Word16,
    perm16 r = ((rev4 (r.extractLsb' 0 4)).setWidth 16 <<< 12) ||| ((rev4 (r.extractLsb' 4 4)).setWidth 16 <<< 8) |||
      ((rev4 (r.extractLsb' 8 4)).setWidth 16 <<< 4) ||| (rev4 (r.extractLsb' 12 4)).setWidth 16 ∧
    perm16 r = rev4 (r.extractLsb' 0 4) ++ rev4 (r.extractLsb' 4 4) ++ rev4 (r.extractLsb' 8 4) ++
      rev4 (r.extractLsb' 12 4) ∧
    (perm16 r).extractLsb' 12 4 = rev4 (r.extractLsb' 0 4) ∧
    (perm16 r).extractLsb' 8 4 = rev4 (r.extractLsb' 4 4) ∧
    (perm16 r).extractLsb' 4 4 = rev4 (r.extractLsb' 8 4) ∧
    (perm16 r).extractLsb' 0 4 = rev4 (r.extractLsb' 12 4)) ∧
  perm16 0x0000 = 0x0000 ∧ perm16 0xFFFF = 0xFFFF ∧ perm16 0x000A = 0x5000 ∧ perm16 0x1234 = 0x2C48

/-- PERM16 is the reversal of all 16 bits (R87 (a)). -/
def Obligations.Perm16ReversesAllSixteenBits : Prop :=
  ∀ (r : Word16) (i : Fin 16), (perm16 r).getLsbD (15 - i.val) = r.getLsbD i.val

/-- PERM16 and DECODE16 are their own inverses, and ENCODE16 undoes DECODE16 (R87 (b), (c)). -/
def Obligations.Decode16IsItsOwnInverse : Prop :=
  ∀ v : Word16, perm16 (perm16 v) = v ∧ decode16 (decode16 v) = v ∧ encode16 (decode16 v) = v

/-- DECODE16 complements the permuted word at 16 bits, in either order, with the examples of R85 and R86. -/
def Obligations.Decode16ComplementsThePermutedWord : Prop :=
  (∀ (p : Word16) (i : Fin 16), (inv16 p).getLsbD i.val = !(p.getLsbD i.val)) ∧
  (∀ r : Word16, decode16 r = inv16 (perm16 r) ∧ perm16 (inv16 r) = inv16 (perm16 r)) ∧
  inv16 0x5000 = 0xAFFF ∧ inv16 0x0000 = 0xFFFF ∧
  decode16 0x0000 = 0xFFFF ∧ decode16 0xFFFF = 0x0000 ∧ decode16 0x000A = 0xAFFF ∧ decode16 0x1234 = 0xD3B7

/-- ASM24 puts the first wire byte lowest (R61), SPLIT24 takes cmd as it is (R62), PARSE24 decodes the address only (R89),
with R89's examples. -/
def Obligations.Parse24AssemblesSplitsAndDecodes : Prop :=
  (∀ b0 b1 b2 : Byte,
    asm24 b0 b1 b2 = b0.setWidth 24 ||| (b1.setWidth 24 <<< 8) ||| (b2.setWidth 24 <<< 16) ∧
    asm24 b0 b1 b2 = b2 ++ b1 ++ b0 ∧
    splitCmd (asm24 b0 b1 b2) = (asm24 b0 b1 b2).extractLsb' 16 8 ∧ splitCmd (asm24 b0 b1 b2) = b2 ∧
    splitRaw (asm24 b0 b1 b2) = (asm24 b0 b1 b2).extractLsb' 0 16 ∧ splitRaw (asm24 b0 b1 b2) = b1 ++ b0 ∧
    parse24 b0 b1 b2 = (decode16 (b1 ++ b0), b2)) ∧
  parse24 0x00 0x00 0x00 = (0xFFFF, 0x00) ∧ parse24 0x0A 0x00 0x00 = (0xAFFF, 0x00) ∧
  parse24 0x34 0x12 0x56 = (0xD3B7, 0x56)

/-- PACK32 puts status, data and bus side by side, nothing inverted, nothing reversed, nothing lost (R90). -/
def Obligations.Pack32PlacesStatusDataBus : Prop :=
  (∀ (st d : Byte) (b : Word16),
    pack32 st d b = (st.setWidth 32 <<< 24) ||| (d.setWidth 32 <<< 16) ||| b.setWidth 32 ∧
    pack32 st d b = st ++ d ++ b ∧
    (pack32 st d b).extractLsb' 24 8 = st ∧ (pack32 st d b).extractLsb' 16 8 = d ∧
    (pack32 st d b).extractLsb' 0 16 = b) ∧
  pack32 0 0 0 = 0x00000000 ∧ pack32 0xFF 0xFF 0xFFFF = 0xFFFFFFFF ∧ pack32 0x12 0x34 0x5678 = 0x12345678

/-- The LED frame goes out low byte first, the 3-byte option is its first three bytes, and no transform is applied (R91 and
20_memory.md R46: the spec's decision D5; R92: decision D6; R93). -/
def Obligations.LedFrameIsSentLowByteFirst : Prop :=
  ∀ (st d : Byte) (b : Word16),
    ser .four (pack32 st d b) = [b.extractLsb' 0 8, b.extractLsb' 8 8, d, st] ∧
    ser .three (pack32 st d b) = [b.extractLsb' 0 8, b.extractLsb' 8 8, d]

/-! ### The answers of the Link -/

/-- The answers of a script are taken in order, with `link_open = 0` the Link is not asked (20_memory.md R41 to R44), and a
read delivers `max(0, min(cnt, 3))` bytes (R41, decision D29; R44 is decision D15; the queues are log entry 1). -/
def Obligations.LinkAnswersAreTakenInOrder : Prop :=
  ∀ s : State,
    (∀ ok r c, s.link.opens = ok :: r →
      (linkOpenDevice c s).linkOpen = ok ∧ (linkOpenDevice c s).link = { s.link with opens := r } ∧
      (linkOpenDevice c s).trace = s.trace ++ [.opened ok]) ∧
    (∀ a r, s.linkOpen = true → s.link.reads = a :: r →
      readAnswer s = a ∧ (linkRead s).link = { s.link with reads := r } ∧
      (linkRead s).trace = s.trace ++ [.read 3 a.cnt (deliveredBytes a)]) ∧
    (∀ cnt r, s.linkOpen = true → s.link.writes = cnt :: r →
      writeAnswer s = cnt ∧ (linkWrite s).link = { s.link with writes := r } ∧
      (linkWrite s).trace = s.trace ++ [.write (txBytes s) cnt]) ∧
    (s.linkOpen = false →
      (linkRead s).link = s.link ∧ (linkRead s).trace = s.trace ++ [.read 3 0 []] ∧
      (linkWrite s).link = s.link ∧ (linkWrite s).trace = s.trace ++ [.write (txBytes s) 0]) ∧
    (∀ a : ReadAnswer, (deliveredBytes a).length = (max 0 (min a.cnt 3)).toNat ∧ deliveredBytes a <+: [a.b0, a.b1, a.b2])

/-! ### The operations -/

/-- NOP completes at once and changes nothing (43_init.md R149, decision D2). -/
def Obligations.NopCompletesAndChangesNothing : Prop :=
  ∀ s : State, s.ph = .idle → exec .nop s = .next { s with results := s.results ++ [.nop] }

/-- RDSW on a read of count 3: the events of R101 in order, the bytes in `rx_buf`, the commit of `sw_addr`, `sw_cmd` and
`frame_valid` together (R104), the result (R105), and nothing else changed but the Link's queue and the counter of the free
values. The level of SW_CS_N is the spec's decision D9; that `rx_shift` stays is log entry 8. -/
def Obligations.RdswCommitsAThreeByteFrame : Prop :=
  ∀ (s : State) (b0 b1 b2 : Byte), s.ph = .idle → s.linkOpen = true → nextRead s = ⟨3, b0, b1, b2⟩ →
    ∃ n, exec .rdsw s = .next
      { s with
        rx := { s.rx with buf0 := b0, buf1 := b1, buf2 := b2, bytec := 3, bitc := 0 }
        swAddr := decode16 (b1 ++ b0)
        swCmd := b2
        frameValid := true
        lines := { s.lines with swCsN := .high, swLoad := .high }
        trace := s.trace ++ [.lineSet .swCsN false, .lineSet .swLoad false, .lineSet .swLoad true,
          .read 3 3 [b0, b1, b2], .lineSet .swCsN true]
        results := s.results ++ [.rdsw (decode16 (b1 ++ b0)) b2]
        link := { s.link with reads := s.link.reads.tail }
        draws := n }

/-- RDSW on any other count, any integer: the link fault (41_switch_read.md R102), entered as 60_exceptions.md R158 says
(decision D16): flags and result registers kept, all lines without a level, no `Done`, the receive registers without a
stated value. With `link_open = 0` the count is 0 (20_memory.md R44, decision D15). -/
def Obligations.RdswFaultsOnEveryOtherCount : Prop :=
  ∀ s : State, s.ph = .idle → (readAnswer s).cnt ≠ 3 →
    ∃ rx n, exec .rdsw s = .next
      { s with
        fault := true
        cause := .linkRd
        ph := .halt
        log := s.log ++ [.linkFault .linkRd (readAnswer s).cnt]
        lines := Lines.undriven
        trace := s.trace ++ [.lineSet .swCsN false, .lineSet .swLoad false, .lineSet .swLoad true,
          .read 3 (readAnswer s).cnt (deliveredBytes (readAnswer s))]
        link := if s.linkOpen then { s.link with reads := s.link.reads.tail } else s.link
        rx := rx
        draws := n }

/-- An RDSW before a successful INIT, the device not open: the link fault with count 0, the Link not asked (R44, R106 (d),
decision D15). -/
def Obligations.RdswWithoutDeviceFaultsWithCountZero : Prop :=
  ∀ s : State, s.ph = .idle → s.linkOpen = false →
    ∃ t, exec .rdsw s = .next t ∧ t.ph = .halt ∧ t.fault = true ∧ t.log = s.log ++ [.linkFault .linkRd 0] ∧
      t.link = s.link ∧
      t.trace = s.trace ++ [.lineSet .swCsN false, .lineSet .swLoad false, .lineSet .swLoad true, .read 3 0 []]

/-- WRLED: the events of R122 in order, the bytes `[b[7:0], b[15:8], d, s]` handed over in one write whatever the Link takes
(R123; three of them under the 3-byte option, R130, decision D6; a count of 0 with the device not open, 20_memory.md R44, decision
D15), `wr_short` and the log entry exactly on a count other than the
frame's, the result, and nothing else changed but the hidden registers, the Link's queue and the counter of the free
values (these and the field that holds the count are the model's own, log entries 1, 5 and 7). -/
def Obligations.WrledSendsThePackedFrame : Prop :=
  ∀ (s : State) (st d : Byte) (b : Word16), s.ph = .idle →
    ∃ sh bitc bytec n, exec (.wrled st d b) s = .next
      { s with
        tx := ⟨st ++ d ++ b, sh, bitc, bytec, writeAnswer s⟩
        wrShort := decide (writeAnswer s ≠ s.params.ledFrameBytes.count)
        log := s.log ++ (if writeAnswer s = s.params.ledFrameBytes.count then [] else [.shortWrite (writeAnswer s)])
        lines := { s.lines with ledStore := .high }
        trace := s.trace ++ [.lineSet .ledStore false,
          .write ([b.extractLsb' 0 8, b.extractLsb' 8 8, d, st].take s.params.ledFrameBytes.count) (writeAnswer s),
          .lineSet .ledStore true]
        results := s.results ++ [.wrled (decide (writeAnswer s ≠ s.params.ledFrameBytes.count))]
        link := if s.linkOpen then { s.link with writes := s.link.writes.tail } else s.link
        draws := n }

/-- INIT when the device opens (43_init.md R140, R145, decision D12): nine events in order, the five lines at their safe
levels, both patterns written with their own counts `c1`, `c2`, each short one flagged and logged, `wr_short` describing the
second, success whatever the counts, and nothing else changed but the hidden registers, the Link's queues and the counter
of the free values. The transmit field that ends as `c2` is the model's own (log entry 5), and so are the queues and the
counter (log entry 1), the hidden registers' values (log entry 7) and the list that holds the `Done` (log entry 19). -/
def Obligations.InitSucceedsWhenTheDeviceOpens : Prop :=
  ∀ s : State, s.ph = .idle → openAnswer Config.serialCfg s = true →
    ∃ (c1 c2 : Int) (sh : Byte) (bitc : BitVec 3) (bytec : Fin 5) (n : Nat),
      (∀ x r, s.link.writes = x :: r → c1 = x) ∧ (∀ x y r, s.link.writes = x :: y :: r → c2 = y) ∧
      exec .init s = .next
        { s with
          tx := ⟨s.params.diagAlt.status ++ s.params.diagAlt.data ++ s.params.diagAlt.bus, sh, bitc, bytec, c2⟩
          wrShort := decide (c2 ≠ s.params.ledFrameBytes.count)
          linkOpen := true
          initOk := true
          log := s.log ++ (if c1 = s.params.ledFrameBytes.count then [] else [.shortWrite c1]) ++
            (if c2 = s.params.ledFrameBytes.count then [] else [.shortWrite c2])
          lines := ⟨.high, .high, levelOf s.params.safeLedMr, .high, levelOf s.params.safeLedOe⟩
          trace := s.trace ++ [.linesReset (safeLines s.params), .opened true,
            .lineSet .ledStore false,
            .write (ser s.params.ledFrameBytes
              (pack32 s.params.diagAllOn.status s.params.diagAllOn.data s.params.diagAllOn.bus)) c1,
            .lineSet .ledStore true, .delay .settleDelay, .lineSet .ledStore false,
            .write (ser s.params.ledFrameBytes
              (pack32 s.params.diagAlt.status s.params.diagAlt.data s.params.diagAlt.bus)) c2,
            .lineSet .ledStore true]
          results := s.results ++ [.init true]
          link := { s.link with opens := s.link.opens.tail, writes := s.link.writes.tail.tail }
          draws := n }

/-- INIT when the device does not open (R146, decision D12): logged, result 0, no pattern, not fatal. -/
def Obligations.InitFailsWhenTheDeviceDoesNotOpen : Prop :=
  ∀ s : State, s.ph = .idle → openAnswer Config.serialCfg s = false →
    ∃ n, exec .init s = .next
      { s with
        linkOpen := false
        initOk := false
        log := s.log ++ [.initFail]
        lines := ⟨.high, .high, levelOf s.params.safeLedMr, .high, levelOf s.params.safeLedOe⟩
        trace := s.trace ++ [.linesReset (safeLines s.params), .opened false]
        results := s.results ++ [.init false]
        link := { s.link with opens := s.link.opens.tail }
        draws := n }

/-- INIT's effect does not depend on the state it finds (R147 (a)): from any two idle states with the same parameters and the
same answers of the Link, everything INIT writes ends the same and the same entries are appended to the trace, the log and
the results; where the device opens, the transmit registers and `wr_short` end the same too, and where it does not, they are
left as they were (the Link's answers are log entry 1; the hidden transmit registers log entries 5 and 7). -/
def Obligations.InitDoesNotDependOnTheStateItFinds : Prop :=
  ∀ s s' t t' : State, s.ph = .idle → s'.ph = .idle → s.params = s'.params → s.link = s'.link → s.draws = s'.draws →
    exec .init s = .next t → exec .init s' = .next t' →
    t.lines = t'.lines ∧ t.linkOpen = t'.linkOpen ∧ t.initOk = t'.initOk ∧ t.ph = t'.ph ∧ t.link = t'.link ∧
      t.draws = t'.draws ∧
      (∃ events, t.trace = s.trace ++ events ∧ t'.trace = s'.trace ++ events) ∧
      (∃ entries, t.log = s.log ++ entries ∧ t'.log = s'.log ++ entries) ∧
      (∃ done, t.results = s.results ++ [done] ∧ t'.results = s'.results ++ [done]) ∧
      (t.linkOpen = true → t.tx = t'.tx ∧ t.wrShort = t'.wrShort) ∧
      (t.linkOpen = false → t.tx = s.tx ∧ t'.tx = s'.tx ∧ t.wrShort = s.wrShort ∧ t'.wrShort = s'.wrShort)

/-- A `Start` outside IDLE is ignored: no state changes, no event, no `Done` (30_encoding.md R66; HALT: 70_reset_and_hazards.md
R190; busy: R189 asks the Host not to do it, log entry 9, decision D19). -/
def Obligations.StartOutsideIdleIsIgnored : Prop :=
  ∀ (s : State) (st d : Byte) (b : Word16), s.ph ≠ .idle →
    exec .nop s = .next s ∧ exec .init s = .next s ∧ exec .rdsw s = .next s ∧ exec (.wrled st d b) s = .next s

/-! ### The frame rows and the table rows -/

/-- A switch frame as a row of the opcode table: PARSE24 of its bytes, and no state of the block touched (30_encoding.md R60,
40_transform.md R88, R89; the list the output goes to is log entry 10). -/
def Obligations.SwitchFrameRowIsParsed : Prop :=
  ∀ (s : State) (c h l : Byte),
    exec (.swframe c h l) s = .next { s with observed := s.observed ++ [.parsed (decode16 (h ++ l)) c] }

/-- The two LED frames as rows of the opcode table: the packed word and its bytes in wire order, and no state of the block
touched (R64, R65, R88, R90 to R92; decisions D5, D6; log entry 10). -/
def Obligations.LedFrameRowsArePackedAndSerialised : Prop :=
  ∀ (s : State) (st d : Byte) (b : Word16),
    exec (.ledframe st d b) s = .next
      { s with observed := s.observed ++ [.packed (st ++ d ++ b) [b.extractLsb' 0 8, b.extractLsb' 8 8, d, st]] } ∧
    exec (.ledframe3 d b) s = .next
      { s with observed := s.observed ++ [.packed3 (d ++ b) [b.extractLsb' 0 8, b.extractLsb' 8 8, d]] }

/-- The sixteen table rows: each gives its entry of R80 and touches no state of the block (R88; log entry 10). -/
def Obligations.TableRowsGiveTheirEntries : Prop :=
  ∀ s : State,
    exec .rev4_0 s = .next { s with observed := s.observed ++ [.nibble 0x0 0x0] } ∧
    exec .rev4_1 s = .next { s with observed := s.observed ++ [.nibble 0x1 0x8] } ∧
    exec .rev4_2 s = .next { s with observed := s.observed ++ [.nibble 0x2 0x4] } ∧
    exec .rev4_3 s = .next { s with observed := s.observed ++ [.nibble 0x3 0xC] } ∧
    exec .rev4_4 s = .next { s with observed := s.observed ++ [.nibble 0x4 0x2] } ∧
    exec .rev4_5 s = .next { s with observed := s.observed ++ [.nibble 0x5 0xA] } ∧
    exec .rev4_6 s = .next { s with observed := s.observed ++ [.nibble 0x6 0x6] } ∧
    exec .rev4_7 s = .next { s with observed := s.observed ++ [.nibble 0x7 0xE] } ∧
    exec .rev4_8 s = .next { s with observed := s.observed ++ [.nibble 0x8 0x1] } ∧
    exec .rev4_9 s = .next { s with observed := s.observed ++ [.nibble 0x9 0x9] } ∧
    exec .rev4_A s = .next { s with observed := s.observed ++ [.nibble 0xA 0x5] } ∧
    exec .rev4_B s = .next { s with observed := s.observed ++ [.nibble 0xB 0xD] } ∧
    exec .rev4_C s = .next { s with observed := s.observed ++ [.nibble 0xC 0x3] } ∧
    exec .rev4_D s = .next { s with observed := s.observed ++ [.nibble 0xD 0xB] } ∧
    exec .rev4_E s = .next { s with observed := s.observed ++ [.nibble 0xE 0x7] } ∧
    exec .rev4_F s = .next { s with observed := s.observed ++ [.nibble 0xF 0xF] }

/-! ### Reset -/

/-- The values R30 gives (decision D18); the registers it gives no value are not in this statement. -/
def Obligations.ResetStateHasTheListedValues : Prop :=
  State.reset.ph = .idle ∧ State.reset.frameValid = false ∧ State.reset.linkOpen = false ∧ State.reset.initOk = false ∧
  State.reset.wrShort = false ∧ State.reset.fault = false ∧ causeBits State.reset.cause = 0 ∧
  State.reset.rx.bitc = 0 ∧ State.reset.rx.bytec = 0 ∧ State.reset.tx.bitc = 0 ∧ State.reset.tx.bytec = 0 ∧
  State.reset.lines = ⟨.undriven, .undriven, .undriven, .undriven, .undriven⟩ ∧
  State.reset.trace = [] ∧ State.reset.log = []

/-- The event `rst`, in any state, also in HALT and in the middle of an operation, puts the values of R30 in place and sends
nothing on the link (70_reset_and_hazards.md R185, decision D18; that the parameters, the Link's answers and the later events
stay is log entry 19). -/
def Obligations.ResetEventLeavesAnyState : Prop :=
  ∀ (s : State) (rest : List Event), s.events = .rst :: rest →
    ∃ t, step s = .next t ∧ t.ph = .idle ∧ t.frameValid = false ∧ t.linkOpen = false ∧ t.initOk = false ∧
      t.wrShort = false ∧ t.fault = false ∧ causeBits t.cause = 0 ∧ t.rx.bitc = 0 ∧ t.rx.bytec = 0 ∧ t.tx.bitc = 0 ∧
      t.tx.bytec = 0 ∧ t.lines = Lines.undriven ∧ t.trace = [] ∧ t.log = [] ∧ t.link = s.link ∧ t.params = s.params ∧
      t.events = rest

/-! ### Whole-machine rules -/

/-- The invariant `Inv` of Safety.lean holds at reset. -/
def Obligations.InvariantHoldsAtReset : Prop := Inv State.reset

/-- Every step keeps the invariant `Inv`: `fault` and `cause` exactly in HALT with no line driven (R158), `init_ok` only with
an open device (R145), the chip-select and the store strobe low throughout a transfer (R103, R54), all five lines where the
phase has them once INIT has reset them, no write past its frame (R127), the commit only with three whole bytes (R109). -/
def Obligations.EveryStepKeepsTheInvariant : Prop :=
  ∀ s t : State, Inv s → step s = .next t → Inv t

/-- HALT is left by reset only, and until then nothing the Host sees changes (60_exceptions.md R158, R159,
70_reset_and_hazards.md R190, decisions D16, D19): whatever else arrives, the phase, the flags, the results, the lines, the
trace and the log stay, and so do the model's own list of results (log entry 19) and the Host's values (log entry 18). -/
def Obligations.HaltIsLeftByResetOnly : Prop :=
  ∀ s t : State, s.ph = .halt → headEvent s ≠ .rst → step s = .next t →
    t.ph = .halt ∧ ports t = ports s ∧ t.trace = s.trace ∧ t.log = s.log ∧ t.results = s.results ∧ t.rx = s.rx ∧
      t.tx = s.tx ∧ t.link = s.link ∧ t.dispatcher = s.dispatcher

/-- The trace and the log only grow at the end, but for a reset (10_state.md R29), and so does the list of results: that list is
the model's own record of the `Done` events of 30_encoding.md R67 (log entry 19), no list of R29. -/
def Obligations.TraceAndLogAreAppendOnly : Prop :=
  ∀ s t : State, headEvent s ≠ .rst → step s = .next t →
    s.trace <+: t.trace ∧ s.log <+: t.log ∧ s.results <+: t.results

/-- `sw_addr`, `sw_cmd` and `frame_valid` change together, by the commit of a switch read and by nothing else but a reset: the
new pair is PARSE24 of the three bytes then in `rx_buf`, `frame_valid` is 1 and the same pair is the `Done` of that read, the last of the model's own list of results (log entry 19)
(10_state.md R13, R19, R28; 41_switch_read.md R104, decision D21). -/
def Obligations.SwitchResultChangesOnlyByACommit : Prop :=
  ∀ s t : State, headEvent s ≠ .rst → step s = .next t →
    (t.swAddr = s.swAddr ∧ t.swCmd = s.swCmd ∧ t.frameValid = s.frameValid) ∨
    ((t.swAddr, t.swCmd) = parse24 t.rx.buf0 t.rx.buf1 t.rx.buf2 ∧ t.frameValid = true ∧
      t.results = s.results ++ [.rdsw t.swAddr t.swCmd])

/-- Only RDSW raises the link fault among the rows of the opcode table (60_exceptions.md R155, R162): after any other, `fault`,
`cause` and HALT are as before. -/
def Obligations.OnlyRdswRaisesTheLinkFault : Prop :=
  ∀ (i : Instr) (s t : State), i ≠ .rdsw → exec i s = .next t →
    t.fault = s.fault ∧ t.cause = s.cause ∧ (t.ph = .halt ↔ s.ph = .halt)

/-- No operation but INIT drives LED_MR or LED_OE (10_state.md R22, R28): after any row but INIT they are as before, or without
a level after a link fault. -/
def Obligations.OnlyInitDrivesLedMrAndLedOe : Prop :=
  ∀ (i : Instr) (s t : State), i ≠ .init → exec i s = .next t →
    (t.lines.ledMr = s.lines.ledMr ∧ t.lines.ledOe = s.lines.ledOe) ∨ (i = .rdsw ∧ t.fault = true ∧ t.lines = Lines.undriven)

/-- No step changes the parameters (00_scope.md R6, 10_state.md R10; holding them in the state is log entry 2). -/
def Obligations.ParametersAreConstant : Prop :=
  ∀ s t : State, step s = .next t → t.params = s.params

/-- A machine that INIT has made ready stays ready through NOP, WRLED with any count, and RDSW of count 3, and a successful
INIT makes any idle machine without a fault ready; RDSW of any other count ends badly (R187, R199, 43_init.md R145). That a run
of operations that stands in such a state ends well is the statement RunsEndWellOrHaveAnOperationWithoutDone. -/
def Obligations.OperationsKeepTheMachineReady : Prop :=
  (∀ s t : State, AtRest s → openAnswer Config.serialCfg s = true → exec .init s = .next t → Ready t) ∧
  (∀ s t : State, Ready s → exec .nop s = .next t → Ready t) ∧
  (∀ (s t : State) (st d : Byte) (b : Word16), Ready s → exec (.wrled st d b) s = .next t → Ready t) ∧
  (∀ s t : State, Ready s → (nextRead s).cnt = 3 → exec .rdsw s = .next t → Ready t ∧ t.frameValid = true) ∧
  (∀ s t : State, Ready s → (nextRead s).cnt ≠ 3 → exec .rdsw s = .next t → EndsBadly t)

/-! ### The finer levels -/

/-- The big step of each operation is the composition of its phases (41_switch_read.md R107, 42_led_write.md R127, 43_init.md
R148, decision D1): accepted in IDLE and run for nine phases, the operation ends in the same state, trace, log and results. -/
def Obligations.BigStepIsTheCompositionOfItsPhases : Prop :=
  ∀ (op : OpCode) (st d : Byte) (b : Word16) (s : State), s.ph = .idle →
    exec (op.instr st d b) s = .next (ticks 9 (acceptStart op st d b s))

/-- The frame parser byte by byte (R108, R109, decision D20): from a fresh RD4 with the device open, after any bytes the count
is their number, saturating at 4, `rx_buf[k]` holds the `k`-th byte, later ones are dropped, and nothing else but the trace
has changed. That `rx_shift` is left alone at this level is log entry 8 (DEDUCED); `rx_bitc` is not assumed 0, and that a byte
leaves the bits of a partial one in is log entry 14 (DESIGN CHOICE). -/
def Obligations.ByteLevelParserCountsAndStores : Prop :=
  ∀ (s : State) (xs : List Byte), s.ph = .rd4 → s.linkOpen = true → s.rx.bytec = 0 →
    rxBytes xs s =
      { s with
        rx := { s.rx with
          buf0 := xs[0]?.getD s.rx.buf0
          buf1 := xs[1]?.getD s.rx.buf1
          buf2 := xs[2]?.getD s.rx.buf2
          bytec := byteCount xs.length }
        trace := s.trace ++ xs.map .rxByte }

/-- Eight `RxBit` in wire order are one `RxByte`, for either bit order: the same registers but for `rx_shift`, which then holds
the byte, and the same trace but for its parts (R110, R111; MSB first is the spec's decision D4). -/
def Obligations.EightRxBitsAreOneRxByte : Prop :=
  ∀ (s : State) (x : Byte), s.ph = .rd4 → s.linkOpen = true → s.rx.bitc = 0 →
    rxBits (wireBits s.params.bitOrder x) s =
      { s with
        rx := { (rxByte x s).rx with shift := x }
        trace := s.trace ++ (wireBits s.params.bitOrder x).map .rxBit }

/-- The end of a read at the finer levels (R108, R110, R49, decision D20): exactly three whole bytes and no partial one go on to
the commit, everything else is the link fault with the number of whole bytes. That this number is the logged count also where
a partial byte follows (three whole bytes and one bit: 3), and 4 for any more than 4 bytes, is log entry 17 (DEDUCED). -/
def Obligations.RxEndAcceptsExactlyThreeWholeBytes : Prop :=
  ∀ s : State, s.ph = .rd4 →
    (s.rx.bytec = 3 ∧ s.rx.bitc = 0 → rxEnd s = { s with ph := .rd5, trace := s.trace ++ [.rxEnd] }) ∧
    (¬(s.rx.bytec = 3 ∧ s.rx.bitc = 0) →
      ∃ rx n, rxEnd s =
        { s with
          fault := true
          cause := .linkRd
          ph := .halt
          log := s.log ++ [.linkFault .linkRd s.rx.bytec.val]
          lines := Lines.undriven
          trace := s.trace ++ [.rxEnd]
          rx := rx
          draws := n })

/-- A whole RDSW bit by bit ends as the big step of the same three bytes (R111, R3): from IDLE with the device open, the
three line phases, 24 bits in wire order, the end of the read and the commit leave the block as the big step with
`read: (3, [b0, b1, b2])` does, but for `rx_shift`, the `Read` event in its parts, and the Link's queue and counter. -/
def Obligations.BitLevelReadRefinesTheBigStep : Prop :=
  ∀ (s u : State) (b0 b1 b2 : Byte) (q : List ReadAnswer), s.ph = .idle → s.linkOpen = true → s.link.reads = ⟨3, b0, b1, b2⟩ :: q →
    exec .rdsw s = .next u →
    ∃ l n, tick (rxEnd (rxBits (wireBits s.params.bitOrder b0 ++ wireBits s.params.bitOrder b1 ++ wireBits s.params.bitOrder b2)
        (ticks 3 (acceptStart .rdsw 0 0 0 s)))) =
      { u with
        rx := { u.rx with shift := b2 }
        trace := s.trace ++ [.lineSet .swCsN false, .lineSet .swLoad false, .lineSet .swLoad true] ++
          (wireBits s.params.bitOrder b0 ++ wireBits s.params.bitOrder b1 ++ wireBits s.params.bitOrder b2).map .rxBit ++
          [.rxEnd, .lineSet .swCsN true]
        link := l
        draws := n }

/-- The LED encoder byte by byte (42_led_write.md R127; three bytes: decision D6): from a write phase with no whole byte taken and
the device open, the Link is offered the bytes of the frame in order, and with the last one the write is full, `Write(bs, cnt)`
with the whole frame and its length is on the trace (R129, decision D1) and the phase ends. That a byte is recorded when it is
taken, and the `Write` after its bytes, is log entry 22 (DESIGN CHOICE). That `tx_shift` and `tx_bitc` are 0 afterwards is log entry 7 (DEDUCED), the field of the count is log entry 5, and that a
whole byte may follow bits of a partial one (`tx_bitc` is not assumed 0) is log entry 14 (DESIGN CHOICE). -/
def Obligations.ByteLevelWriteSendsTheWholeFrame : Prop :=
  ∀ (s : State) (q : Phase), afterWrite s.ph = some q → s.linkOpen = true → s.tx.bytec = 0 →
    txByteTimes s.params.ledFrameBytes.count s =
      { s with
        tx := ⟨s.tx.word, 0, 0, byteCount s.params.ledFrameBytes.count, s.params.ledFrameBytes.count⟩
        ph := q
        trace := s.trace ++ (ser s.params.ledFrameBytes s.tx.word).map .txByte ++
          [.write (ser s.params.ledFrameBytes s.tx.word) s.params.ledFrameBytes.count] }

/-- Eight `TxBit` are one `TxByte`, for either bit order: the byte's bits in wire order on serial data out, after the last byte of
the frame the same `Write(bs, cnt)`, and the same state (R128, R129, decision D1; MSB first is the spec's decision D4; that the
byte level leaves the serialiser as its bits do is log entry 7, DEDUCED; that no `TxByte` stands beside the bits, and the `Write`
after them, is log entry 22, DESIGN CHOICE). -/
def Obligations.EightTxBitsAreOneTxByte : Prop :=
  ∀ (s : State) (x : Byte), offeredByte s = some x → s.tx.bitc = 0 →
    txBitTimes 8 s =
      { txByte s with
        trace := s.trace ++ (wireBits s.params.bitOrder x).map .txBit ++
          (if s.tx.bytec.val + 1 = s.params.ledFrameBytes.count then [.write (txBytes s) s.params.ledFrameBytes.count] else []) }

/-- A write that the Link ends early (R127, R128): the count is the number of whole bytes taken, `Write(bs, cnt)` with the whole
frame and that count is on the trace (R129, decision D1; that it stands after `TxEnd`, log entry 22, DESIGN CHOICE), and the phase
goes on; `tx_shift` stays as it was also where a byte was offered and no bit of it taken (log entry 24, DESIGN CHOICE). In a state
that meets the invariant that count is below the frame's, so the write is short: the next phase sets `wr_short` and logs it
(R124, decision D22). `link_open` is not assumed: that the event also ends a write with the device not open is log entry 21
(DESIGN CHOICE), and the field of the count is log entry 5. -/
def Obligations.TxEndGivesTheWholeBytesTaken : Prop :=
  ∀ (s : State) (q : Phase), afterWrite s.ph = some q →
    txEnd s =
      { s with
        tx := { s.tx with cnt := s.tx.bytec.val }
        ph := q
        trace := s.trace ++ [.txEnd, .write (txBytes s) s.tx.bytec.val] } ∧
    (Inv s →
      (s.tx.bytec.val : Int) < ledFrameCount s ∧ isShort (txEnd s).tx.cnt (txEnd s) = true ∧
      (tick (txEnd s)).wrShort = true ∧ (tick (txEnd s)).log = s.log ++ [.shortWrite s.tx.bytec.val])

/-! ### The Host's side -/

/-- One poll (60_exceptions.md R171, R172, R173, decision D23): after a read of count 3 the bus value is the decoded address, and
the callback gets `cmd` exactly where it differs from LastCommand; after a link fault the Host's values stay. -/
def Obligations.PollFiresOnAChangeOfCommand : Prop :=
  ∀ (s : State) (rest : List Event), s.events = .poll :: rest → s.ph = .idle →
    ∃ t, step s = .next t ∧
      (∀ b0 b1 b2, s.linkOpen = true → nextRead s = ⟨3, b0, b1, b2⟩ →
        t.ph = .idle ∧ t.dispatcher.busValue = decode16 (b1 ++ b0) ∧ t.dispatcher.lastCommand = b2 ∧
        t.dispatcher.callbacks = s.dispatcher.callbacks ++ (if b2 = s.dispatcher.lastCommand then [] else [b2])) ∧
      ((readAnswer s).cnt ≠ 3 → t.ph = .halt ∧ t.fault = true ∧ t.dispatcher = s.dispatcher)

/-- The status view, bit by bit (10_state.md R21, decision D2). -/
def Obligations.StatusViewHasTheListedBits : Prop :=
  ∀ s : State,
    (statusView s).getLsbD 0 = decide (s.ph ≠ .idle ∧ s.ph ≠ .halt) ∧ (statusView s).getLsbD 1 = s.frameValid ∧
    (statusView s).getLsbD 2 = s.initOk ∧ (statusView s).getLsbD 3 = s.linkOpen ∧ (statusView s).getLsbD 4 = s.wrShort ∧
    (statusView s).getLsbD 5 = s.fault ∧ (statusView s).extractLsb' 6 2 = causeBits s.cause

/-- The result ports have a value exactly while `frame_valid` is 1 (R13, R30, 70_reset_and_hazards.md R193). -/
def Obligations.ResultPortsHaveAValueOnlyWhenValid : Prop :=
  ∀ s : State,
    (s.frameValid = false → (ports s).swAddr = none ∧ (ports s).swCmd = none) ∧
    (s.frameValid = true → (ports s).swAddr = some s.swAddr ∧ (ports s).swCmd = some s.swCmd)

/-! ### Encoding, the request of WRLED -/

/-- WRLED's request is read without loss: encoding what was decoded gives the request back (30_encoding.md R66, R68; the 5-byte
container of a `Start` and the refusal of its padding are log entry 11). -/
def Obligations.EncodeOfDecodedWrledIsTheRequest : Prop :=
  ∀ (r : Request) (st d : Byte) (b : Word16), decode r = .ok (.wrled st d b) → encode (.wrled st d b) = r

/-! ### Runs -/

/-- Every operation that a Host under R189 issues is answered once: over any step but a reset, the operations that have produced
their `Done`, followed by the one that has not, are those of before with the operation that the step issues (30_encoding.md
R66, R67, decision D2; 70_reset_and_hazards.md R189, decision D19; the list of the `Done` events is log entry 19, the events are
log entry 13). -/
def Obligations.EveryOperationIsAnsweredOnce : Prop :=
  ∀ s t : State, disciplined s = true → headEvent s ≠ .rst → step s = .next t →
    t.results.map Done.op ++ withoutDone t.ph =
      s.results.map Done.op ++ withoutDone s.ph ++ (eventOp (headEvent s)).toList

/-- A run (R199, decision D1): of the operations issued since the reset, all have produced their `Done` in order, but for the one
under way or faulted. So a run of some operations, none left to issue, ends well exactly where it stands in IDLE without a
fault, and one that ends badly has its last operation, an RDSW, without a `Done` (R159, R173, decision D16; which events a run may
hold, and that a run of no operation does not end well, is log entry 23). -/
def Obligations.RunsEndWellOrHaveAnOperationWithoutDone : Prop :=
  ∀ (s0 t : State) (ops : List OpCode), Run s0 t ops →
    ops = t.results.map Done.op ++ withoutDone t.ph ∧
    (ops ≠ [] → NothingPending t → (EndsWell s0 t ops ↔ AtRest t)) ∧
    (EndsBadly t → ¬EndsWell s0 t ops ∧ ops = t.results.map Done.op ++ [.rdsw])

/-- The run of one operation right after a reset: NOP, INIT and WRLED end well whatever the Link answers, and RDSW ends badly, the
device not being open (R188, R199, 20_memory.md R44; decisions D1, D15; the events are log entry 13, a run is log entry 23). -/
def Obligations.RunOfOneOperationAfterReset : Prop :=
  ∀ (s0 : State) (i : Instr) (op : OpCode),
    applyReset s0 = s0 → s0.events = [.start (encode i)] → instrOp i = some op →
    ∃ t, step s0 = .next t ∧ Run s0 t [op] ∧ (op = .rdsw → EndsBadly t) ∧ (op ≠ .rdsw → EndsWell s0 t [op])

/-! ### A whole WRLED at the three levels -/

/-- A whole WRLED that the Link takes in full, bit by bit and byte by byte, gives the same `Write(bs, cnt)` and the same state as
the big step (42_led_write.md R129, decisions D1, D4, D6): from IDLE with the device open, operands accepted, the first phase, the
bits or the bytes of the frame, and the last phase leave the block as the big step does where the Link's count is the frame's length,
but for the parts on the trace, the Link's queue and the counter of the free values. That the transmit registers agree is log
entry 7 (DEDUCED) for the big step and the bytes; that the `Write` stands after its parts is log entry 22 (DESIGN CHOICE). -/
def Obligations.FinerLevelsOfAFullWriteRefineTheBigStep : Prop :=
  ∀ (s u : State) (st d : Byte) (b : Word16) (q : List Int), s.ph = .idle → s.linkOpen = true →
    s.link.writes = (s.params.ledFrameBytes.count : Int) :: q → exec (.wrled st d b) s = .next u →
    let bs := [loByte b, hiByte b, d, st].take s.params.ledFrameBytes.count
    let done := [TraceEvent.write bs s.params.ledFrameBytes.count, .lineSet .ledStore true]
    u.trace = s.trace ++ [.lineSet .ledStore false] ++ done ∧
    tick (txBitTimes (8 * s.params.ledFrameBytes.count) (tick (acceptStart .wrled st d b s))) =
      { u with
        trace := s.trace ++ [.lineSet .ledStore false] ++ (bs.flatMap (wireBits s.params.bitOrder)).map .txBit ++ done
        link := s.link
        draws := s.draws } ∧
    tick (txByteTimes s.params.ledFrameBytes.count (tick (acceptStart .wrled st d b s))) =
      { u with
        trace := s.trace ++ [.lineSet .ledStore false] ++ bs.map .txByte ++ done
        link := s.link
        draws := s.draws }

/-- A whole WRLED that the Link ends after `n` whole bytes, fewer than the frame's, gives the same `Write(bs, cnt)` and the same
state as the big step with the count `n` (42_led_write.md R127, R129, decision D1), but for the parts on the trace, `tx_shift` and
`tx_bitc` (free values in the big step, log entry 7, DEDUCED), the Link's queue and the counter of the free values. With the device
not open no byte is taken, the count is 0 and even those registers agree (20_memory.md R44, decision D15; that `TxEnd` may come
then is log entry 21; that the `Write` stands after its parts is log entry 22: both DESIGN CHOICE). -/
def Obligations.FinerLevelsOfAShortWriteRefineTheBigStep : Prop :=
  ∀ (s u : State) (st d : Byte) (b : Word16), s.ph = .idle → exec (.wrled st d b) s = .next u →
    let bs := [loByte b, hiByte b, d, st].take s.params.ledFrameBytes.count
    (∀ (n : Nat) (q : List Int), s.linkOpen = true → n < s.params.ledFrameBytes.count → s.link.writes = (n : Int) :: q →
      u.trace = s.trace ++ [.lineSet .ledStore false, .write bs n, .lineSet .ledStore true] ∧
      ∃ sh bitc, tick (txEnd (txByteTimes n (tick (acceptStart .wrled st d b s)))) =
        { u with
          tx := { u.tx with shift := sh, bitc := bitc }
          trace := s.trace ++ [.lineSet .ledStore false] ++ (bs.take n).map .txByte ++
            [.txEnd, .write bs n, .lineSet .ledStore true]
          link := s.link
          draws := s.draws }) ∧
    (s.linkOpen = false →
      u.trace = s.trace ++ [.lineSet .ledStore false, .write bs 0, .lineSet .ledStore true] ∧
      tick (txEnd (tick (acceptStart .wrled st d b s))) =
        { u with trace := s.trace ++ [.lineSet .ledStore false, .txEnd, .write bs 0, .lineSet .ledStore true] })
end

