-- ==== Sys2Proof/Laws/State.lean ====
section
/-! SUPPORT. The small lemmas of every primitive update: one per field, each true by `rfl`, so that no later proof unfolds a
record update. -/

namespace Sys2Proof.Machine

@[simp] theorem emit_rx (e : TraceEvent) (s : State) : (emit e s).rx = s.rx := rfl
@[simp] theorem emit_swAddr (e : TraceEvent) (s : State) : (emit e s).swAddr = s.swAddr := rfl
@[simp] theorem emit_swCmd (e : TraceEvent) (s : State) : (emit e s).swCmd = s.swCmd := rfl
@[simp] theorem emit_tx (e : TraceEvent) (s : State) : (emit e s).tx = s.tx := rfl
@[simp] theorem emit_ph (e : TraceEvent) (s : State) : (emit e s).ph = s.ph := rfl
@[simp] theorem emit_frameValid (e : TraceEvent) (s : State) : (emit e s).frameValid = s.frameValid := rfl
@[simp] theorem emit_linkOpen (e : TraceEvent) (s : State) : (emit e s).linkOpen = s.linkOpen := rfl
@[simp] theorem emit_initOk (e : TraceEvent) (s : State) : (emit e s).initOk = s.initOk := rfl
@[simp] theorem emit_wrShort (e : TraceEvent) (s : State) : (emit e s).wrShort = s.wrShort := rfl
@[simp] theorem emit_fault (e : TraceEvent) (s : State) : (emit e s).fault = s.fault := rfl
@[simp] theorem emit_cause (e : TraceEvent) (s : State) : (emit e s).cause = s.cause := rfl
@[simp] theorem emit_lines (e : TraceEvent) (s : State) : (emit e s).lines = s.lines := rfl
@[simp] theorem emit_trace (e : TraceEvent) (s : State) : (emit e s).trace = s.trace ++ [e] := rfl
@[simp] theorem emit_log (e : TraceEvent) (s : State) : (emit e s).log = s.log := rfl
@[simp] theorem emit_results (e : TraceEvent) (s : State) : (emit e s).results = s.results := rfl
@[simp] theorem emit_observed (e : TraceEvent) (s : State) : (emit e s).observed = s.observed := rfl
@[simp] theorem emit_params (e : TraceEvent) (s : State) : (emit e s).params = s.params := rfl
@[simp] theorem emit_link (e : TraceEvent) (s : State) : (emit e s).link = s.link := rfl
@[simp] theorem emit_draws (e : TraceEvent) (s : State) : (emit e s).draws = s.draws := rfl
@[simp] theorem emit_dispatcher (e : TraceEvent) (s : State) : (emit e s).dispatcher = s.dispatcher := rfl
@[simp] theorem emit_events (e : TraceEvent) (s : State) : (emit e s).events = s.events := rfl

@[simp] theorem logEntry_rx (e : LogEntry) (s : State) : (logEntry e s).rx = s.rx := rfl
@[simp] theorem logEntry_swAddr (e : LogEntry) (s : State) : (logEntry e s).swAddr = s.swAddr := rfl
@[simp] theorem logEntry_swCmd (e : LogEntry) (s : State) : (logEntry e s).swCmd = s.swCmd := rfl
@[simp] theorem logEntry_tx (e : LogEntry) (s : State) : (logEntry e s).tx = s.tx := rfl
@[simp] theorem logEntry_ph (e : LogEntry) (s : State) : (logEntry e s).ph = s.ph := rfl
@[simp] theorem logEntry_frameValid (e : LogEntry) (s : State) : (logEntry e s).frameValid = s.frameValid := rfl
@[simp] theorem logEntry_linkOpen (e : LogEntry) (s : State) : (logEntry e s).linkOpen = s.linkOpen := rfl
@[simp] theorem logEntry_initOk (e : LogEntry) (s : State) : (logEntry e s).initOk = s.initOk := rfl
@[simp] theorem logEntry_wrShort (e : LogEntry) (s : State) : (logEntry e s).wrShort = s.wrShort := rfl
@[simp] theorem logEntry_fault (e : LogEntry) (s : State) : (logEntry e s).fault = s.fault := rfl
@[simp] theorem logEntry_cause (e : LogEntry) (s : State) : (logEntry e s).cause = s.cause := rfl
@[simp] theorem logEntry_lines (e : LogEntry) (s : State) : (logEntry e s).lines = s.lines := rfl
@[simp] theorem logEntry_trace (e : LogEntry) (s : State) : (logEntry e s).trace = s.trace := rfl
@[simp] theorem logEntry_log (e : LogEntry) (s : State) : (logEntry e s).log = s.log ++ [e] := rfl
@[simp] theorem logEntry_results (e : LogEntry) (s : State) : (logEntry e s).results = s.results := rfl
@[simp] theorem logEntry_observed (e : LogEntry) (s : State) : (logEntry e s).observed = s.observed := rfl
@[simp] theorem logEntry_params (e : LogEntry) (s : State) : (logEntry e s).params = s.params := rfl
@[simp] theorem logEntry_link (e : LogEntry) (s : State) : (logEntry e s).link = s.link := rfl
@[simp] theorem logEntry_draws (e : LogEntry) (s : State) : (logEntry e s).draws = s.draws := rfl
@[simp] theorem logEntry_dispatcher (e : LogEntry) (s : State) : (logEntry e s).dispatcher = s.dispatcher := rfl
@[simp] theorem logEntry_events (e : LogEntry) (s : State) : (logEntry e s).events = s.events := rfl

@[simp] theorem setPh_rx (p : Phase) (s : State) : (setPh p s).rx = s.rx := rfl
@[simp] theorem setPh_swAddr (p : Phase) (s : State) : (setPh p s).swAddr = s.swAddr := rfl
@[simp] theorem setPh_swCmd (p : Phase) (s : State) : (setPh p s).swCmd = s.swCmd := rfl
@[simp] theorem setPh_tx (p : Phase) (s : State) : (setPh p s).tx = s.tx := rfl
@[simp] theorem setPh_ph (p : Phase) (s : State) : (setPh p s).ph = p := rfl
@[simp] theorem setPh_frameValid (p : Phase) (s : State) : (setPh p s).frameValid = s.frameValid := rfl
@[simp] theorem setPh_linkOpen (p : Phase) (s : State) : (setPh p s).linkOpen = s.linkOpen := rfl
@[simp] theorem setPh_initOk (p : Phase) (s : State) : (setPh p s).initOk = s.initOk := rfl
@[simp] theorem setPh_wrShort (p : Phase) (s : State) : (setPh p s).wrShort = s.wrShort := rfl
@[simp] theorem setPh_fault (p : Phase) (s : State) : (setPh p s).fault = s.fault := rfl
@[simp] theorem setPh_cause (p : Phase) (s : State) : (setPh p s).cause = s.cause := rfl
@[simp] theorem setPh_lines (p : Phase) (s : State) : (setPh p s).lines = s.lines := rfl
@[simp] theorem setPh_trace (p : Phase) (s : State) : (setPh p s).trace = s.trace := rfl
@[simp] theorem setPh_log (p : Phase) (s : State) : (setPh p s).log = s.log := rfl
@[simp] theorem setPh_results (p : Phase) (s : State) : (setPh p s).results = s.results := rfl
@[simp] theorem setPh_observed (p : Phase) (s : State) : (setPh p s).observed = s.observed := rfl
@[simp] theorem setPh_params (p : Phase) (s : State) : (setPh p s).params = s.params := rfl
@[simp] theorem setPh_link (p : Phase) (s : State) : (setPh p s).link = s.link := rfl
@[simp] theorem setPh_draws (p : Phase) (s : State) : (setPh p s).draws = s.draws := rfl
@[simp] theorem setPh_dispatcher (p : Phase) (s : State) : (setPh p s).dispatcher = s.dispatcher := rfl
@[simp] theorem setPh_events (p : Phase) (s : State) : (setPh p s).events = s.events := rfl

@[simp] theorem driveLine_rx (l : Line) (v : Bool) (s : State) : (driveLine l v s).rx = s.rx := rfl
@[simp] theorem driveLine_swAddr (l : Line) (v : Bool) (s : State) : (driveLine l v s).swAddr = s.swAddr := rfl
@[simp] theorem driveLine_swCmd (l : Line) (v : Bool) (s : State) : (driveLine l v s).swCmd = s.swCmd := rfl
@[simp] theorem driveLine_tx (l : Line) (v : Bool) (s : State) : (driveLine l v s).tx = s.tx := rfl
@[simp] theorem driveLine_ph (l : Line) (v : Bool) (s : State) : (driveLine l v s).ph = s.ph := rfl
@[simp] theorem driveLine_frameValid (l : Line) (v : Bool) (s : State) : (driveLine l v s).frameValid = s.frameValid := rfl
@[simp] theorem driveLine_linkOpen (l : Line) (v : Bool) (s : State) : (driveLine l v s).linkOpen = s.linkOpen := rfl
@[simp] theorem driveLine_initOk (l : Line) (v : Bool) (s : State) : (driveLine l v s).initOk = s.initOk := rfl
@[simp] theorem driveLine_wrShort (l : Line) (v : Bool) (s : State) : (driveLine l v s).wrShort = s.wrShort := rfl
@[simp] theorem driveLine_fault (l : Line) (v : Bool) (s : State) : (driveLine l v s).fault = s.fault := rfl
@[simp] theorem driveLine_cause (l : Line) (v : Bool) (s : State) : (driveLine l v s).cause = s.cause := rfl
@[simp] theorem driveLine_lines (l : Line) (v : Bool) (s : State) : (driveLine l v s).lines = setLevel s.lines l (levelOf v) := rfl
@[simp] theorem driveLine_trace (l : Line) (v : Bool) (s : State) : (driveLine l v s).trace = s.trace ++ [.lineSet l v] := rfl
@[simp] theorem driveLine_log (l : Line) (v : Bool) (s : State) : (driveLine l v s).log = s.log := rfl
@[simp] theorem driveLine_results (l : Line) (v : Bool) (s : State) : (driveLine l v s).results = s.results := rfl
@[simp] theorem driveLine_observed (l : Line) (v : Bool) (s : State) : (driveLine l v s).observed = s.observed := rfl
@[simp] theorem driveLine_params (l : Line) (v : Bool) (s : State) : (driveLine l v s).params = s.params := rfl
@[simp] theorem driveLine_link (l : Line) (v : Bool) (s : State) : (driveLine l v s).link = s.link := rfl
@[simp] theorem driveLine_draws (l : Line) (v : Bool) (s : State) : (driveLine l v s).draws = s.draws := rfl
@[simp] theorem driveLine_dispatcher (l : Line) (v : Bool) (s : State) : (driveLine l v s).dispatcher = s.dispatcher := rfl
@[simp] theorem driveLine_events (l : Line) (v : Bool) (s : State) : (driveLine l v s).events = s.events := rfl

@[simp] theorem delayFor_rx (t : Duration) (s : State) : (delayFor t s).rx = s.rx := rfl
@[simp] theorem delayFor_swAddr (t : Duration) (s : State) : (delayFor t s).swAddr = s.swAddr := rfl
@[simp] theorem delayFor_swCmd (t : Duration) (s : State) : (delayFor t s).swCmd = s.swCmd := rfl
@[simp] theorem delayFor_tx (t : Duration) (s : State) : (delayFor t s).tx = s.tx := rfl
@[simp] theorem delayFor_ph (t : Duration) (s : State) : (delayFor t s).ph = s.ph := rfl
@[simp] theorem delayFor_frameValid (t : Duration) (s : State) : (delayFor t s).frameValid = s.frameValid := rfl
@[simp] theorem delayFor_linkOpen (t : Duration) (s : State) : (delayFor t s).linkOpen = s.linkOpen := rfl
@[simp] theorem delayFor_initOk (t : Duration) (s : State) : (delayFor t s).initOk = s.initOk := rfl
@[simp] theorem delayFor_wrShort (t : Duration) (s : State) : (delayFor t s).wrShort = s.wrShort := rfl
@[simp] theorem delayFor_fault (t : Duration) (s : State) : (delayFor t s).fault = s.fault := rfl
@[simp] theorem delayFor_cause (t : Duration) (s : State) : (delayFor t s).cause = s.cause := rfl
@[simp] theorem delayFor_lines (t : Duration) (s : State) : (delayFor t s).lines = s.lines := rfl
@[simp] theorem delayFor_trace (t : Duration) (s : State) : (delayFor t s).trace = s.trace ++ [.delay t] := rfl
@[simp] theorem delayFor_log (t : Duration) (s : State) : (delayFor t s).log = s.log := rfl
@[simp] theorem delayFor_results (t : Duration) (s : State) : (delayFor t s).results = s.results := rfl
@[simp] theorem delayFor_observed (t : Duration) (s : State) : (delayFor t s).observed = s.observed := rfl
@[simp] theorem delayFor_params (t : Duration) (s : State) : (delayFor t s).params = s.params := rfl
@[simp] theorem delayFor_link (t : Duration) (s : State) : (delayFor t s).link = s.link := rfl
@[simp] theorem delayFor_draws (t : Duration) (s : State) : (delayFor t s).draws = s.draws := rfl
@[simp] theorem delayFor_dispatcher (t : Duration) (s : State) : (delayFor t s).dispatcher = s.dispatcher := rfl
@[simp] theorem delayFor_events (t : Duration) (s : State) : (delayFor t s).events = s.events := rfl

@[simp] theorem complete_rx (d : Done) (s : State) : (complete d s).rx = s.rx := rfl
@[simp] theorem complete_swAddr (d : Done) (s : State) : (complete d s).swAddr = s.swAddr := rfl
@[simp] theorem complete_swCmd (d : Done) (s : State) : (complete d s).swCmd = s.swCmd := rfl
@[simp] theorem complete_tx (d : Done) (s : State) : (complete d s).tx = s.tx := rfl
@[simp] theorem complete_ph (d : Done) (s : State) : (complete d s).ph = .idle := rfl
@[simp] theorem complete_frameValid (d : Done) (s : State) : (complete d s).frameValid = s.frameValid := rfl
@[simp] theorem complete_linkOpen (d : Done) (s : State) : (complete d s).linkOpen = s.linkOpen := rfl
@[simp] theorem complete_initOk (d : Done) (s : State) : (complete d s).initOk = s.initOk := rfl
@[simp] theorem complete_wrShort (d : Done) (s : State) : (complete d s).wrShort = s.wrShort := rfl
@[simp] theorem complete_fault (d : Done) (s : State) : (complete d s).fault = s.fault := rfl
@[simp] theorem complete_cause (d : Done) (s : State) : (complete d s).cause = s.cause := rfl
@[simp] theorem complete_lines (d : Done) (s : State) : (complete d s).lines = s.lines := rfl
@[simp] theorem complete_trace (d : Done) (s : State) : (complete d s).trace = s.trace := rfl
@[simp] theorem complete_log (d : Done) (s : State) : (complete d s).log = s.log := rfl
@[simp] theorem complete_results (d : Done) (s : State) : (complete d s).results = s.results ++ [d] := rfl
@[simp] theorem complete_observed (d : Done) (s : State) : (complete d s).observed = s.observed := rfl
@[simp] theorem complete_params (d : Done) (s : State) : (complete d s).params = s.params := rfl
@[simp] theorem complete_link (d : Done) (s : State) : (complete d s).link = s.link := rfl
@[simp] theorem complete_draws (d : Done) (s : State) : (complete d s).draws = s.draws := rfl
@[simp] theorem complete_dispatcher (d : Done) (s : State) : (complete d s).dispatcher = s.dispatcher := rfl
@[simp] theorem complete_events (d : Done) (s : State) : (complete d s).events = s.events := rfl

@[simp] theorem observe_rx (v : Evaluated) (s : State) : (observe v s).rx = s.rx := rfl
@[simp] theorem observe_swAddr (v : Evaluated) (s : State) : (observe v s).swAddr = s.swAddr := rfl
@[simp] theorem observe_swCmd (v : Evaluated) (s : State) : (observe v s).swCmd = s.swCmd := rfl
@[simp] theorem observe_tx (v : Evaluated) (s : State) : (observe v s).tx = s.tx := rfl
@[simp] theorem observe_ph (v : Evaluated) (s : State) : (observe v s).ph = s.ph := rfl
@[simp] theorem observe_frameValid (v : Evaluated) (s : State) : (observe v s).frameValid = s.frameValid := rfl
@[simp] theorem observe_linkOpen (v : Evaluated) (s : State) : (observe v s).linkOpen = s.linkOpen := rfl
@[simp] theorem observe_initOk (v : Evaluated) (s : State) : (observe v s).initOk = s.initOk := rfl
@[simp] theorem observe_wrShort (v : Evaluated) (s : State) : (observe v s).wrShort = s.wrShort := rfl
@[simp] theorem observe_fault (v : Evaluated) (s : State) : (observe v s).fault = s.fault := rfl
@[simp] theorem observe_cause (v : Evaluated) (s : State) : (observe v s).cause = s.cause := rfl
@[simp] theorem observe_lines (v : Evaluated) (s : State) : (observe v s).lines = s.lines := rfl
@[simp] theorem observe_trace (v : Evaluated) (s : State) : (observe v s).trace = s.trace := rfl
@[simp] theorem observe_log (v : Evaluated) (s : State) : (observe v s).log = s.log := rfl
@[simp] theorem observe_results (v : Evaluated) (s : State) : (observe v s).results = s.results := rfl
@[simp] theorem observe_observed (v : Evaluated) (s : State) : (observe v s).observed = s.observed ++ [v] := rfl
@[simp] theorem observe_params (v : Evaluated) (s : State) : (observe v s).params = s.params := rfl
@[simp] theorem observe_link (v : Evaluated) (s : State) : (observe v s).link = s.link := rfl
@[simp] theorem observe_draws (v : Evaluated) (s : State) : (observe v s).draws = s.draws := rfl
@[simp] theorem observe_dispatcher (v : Evaluated) (s : State) : (observe v s).dispatcher = s.dispatcher := rfl
@[simp] theorem observe_events (v : Evaluated) (s : State) : (observe v s).events = s.events := rfl

@[simp] theorem linesReset_rx (s : State) : (linesReset s).rx = s.rx := rfl
@[simp] theorem linesReset_swAddr (s : State) : (linesReset s).swAddr = s.swAddr := rfl
@[simp] theorem linesReset_swCmd (s : State) : (linesReset s).swCmd = s.swCmd := rfl
@[simp] theorem linesReset_tx (s : State) : (linesReset s).tx = s.tx := rfl
@[simp] theorem linesReset_ph (s : State) : (linesReset s).ph = s.ph := rfl
@[simp] theorem linesReset_frameValid (s : State) : (linesReset s).frameValid = s.frameValid := rfl
@[simp] theorem linesReset_linkOpen (s : State) : (linesReset s).linkOpen = s.linkOpen := rfl
@[simp] theorem linesReset_initOk (s : State) : (linesReset s).initOk = s.initOk := rfl
@[simp] theorem linesReset_wrShort (s : State) : (linesReset s).wrShort = s.wrShort := rfl
@[simp] theorem linesReset_fault (s : State) : (linesReset s).fault = s.fault := rfl
@[simp] theorem linesReset_cause (s : State) : (linesReset s).cause = s.cause := rfl
@[simp] theorem linesReset_lines (s : State) : (linesReset s).lines = safeLines s.params := rfl
@[simp] theorem linesReset_trace (s : State) : (linesReset s).trace = s.trace ++ [.linesReset (safeLines s.params)] := rfl
@[simp] theorem linesReset_log (s : State) : (linesReset s).log = s.log := rfl
@[simp] theorem linesReset_results (s : State) : (linesReset s).results = s.results := rfl
@[simp] theorem linesReset_observed (s : State) : (linesReset s).observed = s.observed := rfl
@[simp] theorem linesReset_params (s : State) : (linesReset s).params = s.params := rfl
@[simp] theorem linesReset_link (s : State) : (linesReset s).link = s.link := rfl
@[simp] theorem linesReset_draws (s : State) : (linesReset s).draws = s.draws := rfl
@[simp] theorem linesReset_dispatcher (s : State) : (linesReset s).dispatcher = s.dispatcher := rfl
@[simp] theorem linesReset_events (s : State) : (linesReset s).events = s.events := rfl

@[simp] theorem linkOpenDevice_rx (c : SerialCfg) (s : State) : (linkOpenDevice c s).rx = s.rx := rfl
@[simp] theorem linkOpenDevice_swAddr (c : SerialCfg) (s : State) : (linkOpenDevice c s).swAddr = s.swAddr := rfl
@[simp] theorem linkOpenDevice_swCmd (c : SerialCfg) (s : State) : (linkOpenDevice c s).swCmd = s.swCmd := rfl
@[simp] theorem linkOpenDevice_tx (c : SerialCfg) (s : State) : (linkOpenDevice c s).tx = s.tx := rfl
@[simp] theorem linkOpenDevice_ph (c : SerialCfg) (s : State) : (linkOpenDevice c s).ph = s.ph := rfl
@[simp] theorem linkOpenDevice_frameValid (c : SerialCfg) (s : State) : (linkOpenDevice c s).frameValid = s.frameValid := rfl
@[simp] theorem linkOpenDevice_linkOpen (c : SerialCfg) (s : State) : (linkOpenDevice c s).linkOpen = openAnswer c s := rfl
@[simp] theorem linkOpenDevice_initOk (c : SerialCfg) (s : State) : (linkOpenDevice c s).initOk = s.initOk := rfl
@[simp] theorem linkOpenDevice_wrShort (c : SerialCfg) (s : State) : (linkOpenDevice c s).wrShort = s.wrShort := rfl
@[simp] theorem linkOpenDevice_fault (c : SerialCfg) (s : State) : (linkOpenDevice c s).fault = s.fault := rfl
@[simp] theorem linkOpenDevice_cause (c : SerialCfg) (s : State) : (linkOpenDevice c s).cause = s.cause := rfl
@[simp] theorem linkOpenDevice_lines (c : SerialCfg) (s : State) : (linkOpenDevice c s).lines = s.lines := rfl
@[simp] theorem linkOpenDevice_trace (c : SerialCfg) (s : State) : (linkOpenDevice c s).trace = s.trace ++ [.opened (openAnswer c s)] := rfl
@[simp] theorem linkOpenDevice_log (c : SerialCfg) (s : State) : (linkOpenDevice c s).log = s.log := rfl
@[simp] theorem linkOpenDevice_results (c : SerialCfg) (s : State) : (linkOpenDevice c s).results = s.results := rfl
@[simp] theorem linkOpenDevice_observed (c : SerialCfg) (s : State) : (linkOpenDevice c s).observed = s.observed := rfl
@[simp] theorem linkOpenDevice_params (c : SerialCfg) (s : State) : (linkOpenDevice c s).params = s.params := rfl
@[simp] theorem linkOpenDevice_link (c : SerialCfg) (s : State) : (linkOpenDevice c s).link = { s.link with opens := s.link.opens.tail } := rfl
@[simp] theorem linkOpenDevice_draws (c : SerialCfg) (s : State) : (linkOpenDevice c s).draws = s.draws + drawsPerUse := rfl
@[simp] theorem linkOpenDevice_dispatcher (c : SerialCfg) (s : State) : (linkOpenDevice c s).dispatcher = s.dispatcher := rfl
@[simp] theorem linkOpenDevice_events (c : SerialCfg) (s : State) : (linkOpenDevice c s).events = s.events := rfl

@[simp] theorem linkRead_rx (s : State) : (linkRead s).rx = s.rx := rfl
@[simp] theorem linkRead_swAddr (s : State) : (linkRead s).swAddr = s.swAddr := rfl
@[simp] theorem linkRead_swCmd (s : State) : (linkRead s).swCmd = s.swCmd := rfl
@[simp] theorem linkRead_tx (s : State) : (linkRead s).tx = s.tx := rfl
@[simp] theorem linkRead_ph (s : State) : (linkRead s).ph = s.ph := rfl
@[simp] theorem linkRead_frameValid (s : State) : (linkRead s).frameValid = s.frameValid := rfl
@[simp] theorem linkRead_linkOpen (s : State) : (linkRead s).linkOpen = s.linkOpen := rfl
@[simp] theorem linkRead_initOk (s : State) : (linkRead s).initOk = s.initOk := rfl
@[simp] theorem linkRead_wrShort (s : State) : (linkRead s).wrShort = s.wrShort := rfl
@[simp] theorem linkRead_fault (s : State) : (linkRead s).fault = s.fault := rfl
@[simp] theorem linkRead_cause (s : State) : (linkRead s).cause = s.cause := rfl
@[simp] theorem linkRead_lines (s : State) : (linkRead s).lines = s.lines := rfl
@[simp] theorem linkRead_trace (s : State) : (linkRead s).trace = s.trace ++ [.read 3 (readAnswer s).cnt (deliveredBytes (readAnswer s))] := rfl
@[simp] theorem linkRead_log (s : State) : (linkRead s).log = s.log := rfl
@[simp] theorem linkRead_results (s : State) : (linkRead s).results = s.results := rfl
@[simp] theorem linkRead_observed (s : State) : (linkRead s).observed = s.observed := rfl
@[simp] theorem linkRead_params (s : State) : (linkRead s).params = s.params := rfl
@[simp] theorem linkRead_link (s : State) : (linkRead s).link = linkAfterRead s := rfl
@[simp] theorem linkRead_draws (s : State) : (linkRead s).draws = drawsAfter s := rfl
@[simp] theorem linkRead_dispatcher (s : State) : (linkRead s).dispatcher = s.dispatcher := rfl
@[simp] theorem linkRead_events (s : State) : (linkRead s).events = s.events := rfl

@[simp] theorem linkWrite_rx (s : State) : (linkWrite s).rx = s.rx := rfl
@[simp] theorem linkWrite_swAddr (s : State) : (linkWrite s).swAddr = s.swAddr := rfl
@[simp] theorem linkWrite_swCmd (s : State) : (linkWrite s).swCmd = s.swCmd := rfl
@[simp] theorem linkWrite_tx (s : State) : (linkWrite s).tx = txAfterLinkWrite s := rfl
@[simp] theorem linkWrite_ph (s : State) : (linkWrite s).ph = s.ph := rfl
@[simp] theorem linkWrite_frameValid (s : State) : (linkWrite s).frameValid = s.frameValid := rfl
@[simp] theorem linkWrite_linkOpen (s : State) : (linkWrite s).linkOpen = s.linkOpen := rfl
@[simp] theorem linkWrite_initOk (s : State) : (linkWrite s).initOk = s.initOk := rfl
@[simp] theorem linkWrite_wrShort (s : State) : (linkWrite s).wrShort = s.wrShort := rfl
@[simp] theorem linkWrite_fault (s : State) : (linkWrite s).fault = s.fault := rfl
@[simp] theorem linkWrite_cause (s : State) : (linkWrite s).cause = s.cause := rfl
@[simp] theorem linkWrite_lines (s : State) : (linkWrite s).lines = s.lines := rfl
@[simp] theorem linkWrite_trace (s : State) : (linkWrite s).trace = s.trace ++ [.write (txBytes s) (writeAnswer s)] := rfl
@[simp] theorem linkWrite_log (s : State) : (linkWrite s).log = s.log := rfl
@[simp] theorem linkWrite_results (s : State) : (linkWrite s).results = s.results := rfl
@[simp] theorem linkWrite_observed (s : State) : (linkWrite s).observed = s.observed := rfl
@[simp] theorem linkWrite_params (s : State) : (linkWrite s).params = s.params := rfl
@[simp] theorem linkWrite_link (s : State) : (linkWrite s).link = linkAfterWrite s := rfl
@[simp] theorem linkWrite_draws (s : State) : (linkWrite s).draws = drawsAfter s := rfl
@[simp] theorem linkWrite_dispatcher (s : State) : (linkWrite s).dispatcher = s.dispatcher := rfl
@[simp] theorem linkWrite_events (s : State) : (linkWrite s).events = s.events := rfl

@[simp] theorem raiseLinkFault_rx (c : Int) (s : State) : (raiseLinkFault c s).rx = rxAfterFault s := rfl
@[simp] theorem raiseLinkFault_swAddr (c : Int) (s : State) : (raiseLinkFault c s).swAddr = s.swAddr := rfl
@[simp] theorem raiseLinkFault_swCmd (c : Int) (s : State) : (raiseLinkFault c s).swCmd = s.swCmd := rfl
@[simp] theorem raiseLinkFault_tx (c : Int) (s : State) : (raiseLinkFault c s).tx = s.tx := rfl
@[simp] theorem raiseLinkFault_ph (c : Int) (s : State) : (raiseLinkFault c s).ph = .halt := rfl
@[simp] theorem raiseLinkFault_frameValid (c : Int) (s : State) : (raiseLinkFault c s).frameValid = s.frameValid := rfl
@[simp] theorem raiseLinkFault_linkOpen (c : Int) (s : State) : (raiseLinkFault c s).linkOpen = s.linkOpen := rfl
@[simp] theorem raiseLinkFault_initOk (c : Int) (s : State) : (raiseLinkFault c s).initOk = s.initOk := rfl
@[simp] theorem raiseLinkFault_wrShort (c : Int) (s : State) : (raiseLinkFault c s).wrShort = s.wrShort := rfl
@[simp] theorem raiseLinkFault_fault (c : Int) (s : State) : (raiseLinkFault c s).fault = true := rfl
@[simp] theorem raiseLinkFault_cause (c : Int) (s : State) : (raiseLinkFault c s).cause = .linkRd := rfl
@[simp] theorem raiseLinkFault_lines (c : Int) (s : State) : (raiseLinkFault c s).lines = Lines.undriven := rfl
@[simp] theorem raiseLinkFault_trace (c : Int) (s : State) : (raiseLinkFault c s).trace = s.trace := rfl
@[simp] theorem raiseLinkFault_log (c : Int) (s : State) : (raiseLinkFault c s).log = s.log ++ [.linkFault .linkRd c] := rfl
@[simp] theorem raiseLinkFault_results (c : Int) (s : State) : (raiseLinkFault c s).results = s.results := rfl
@[simp] theorem raiseLinkFault_observed (c : Int) (s : State) : (raiseLinkFault c s).observed = s.observed := rfl
@[simp] theorem raiseLinkFault_params (c : Int) (s : State) : (raiseLinkFault c s).params = s.params := rfl
@[simp] theorem raiseLinkFault_link (c : Int) (s : State) : (raiseLinkFault c s).link = s.link := rfl
@[simp] theorem raiseLinkFault_draws (c : Int) (s : State) : (raiseLinkFault c s).draws = s.draws + drawsPerUse := rfl
@[simp] theorem raiseLinkFault_dispatcher (c : Int) (s : State) : (raiseLinkFault c s).dispatcher = s.dispatcher := rfl
@[simp] theorem raiseLinkFault_events (c : Int) (s : State) : (raiseLinkFault c s).events = s.events := rfl

@[simp] theorem storeFrame_rx (a : ReadAnswer) (s : State) : (storeFrame a s).rx = { s.rx with buf0 := a.b0, buf1 := a.b1, buf2 := a.b2, bytec := 3, bitc := 0 } := rfl
@[simp] theorem storeFrame_swAddr (a : ReadAnswer) (s : State) : (storeFrame a s).swAddr = s.swAddr := rfl
@[simp] theorem storeFrame_swCmd (a : ReadAnswer) (s : State) : (storeFrame a s).swCmd = s.swCmd := rfl
@[simp] theorem storeFrame_tx (a : ReadAnswer) (s : State) : (storeFrame a s).tx = s.tx := rfl
@[simp] theorem storeFrame_ph (a : ReadAnswer) (s : State) : (storeFrame a s).ph = s.ph := rfl
@[simp] theorem storeFrame_frameValid (a : ReadAnswer) (s : State) : (storeFrame a s).frameValid = s.frameValid := rfl
@[simp] theorem storeFrame_linkOpen (a : ReadAnswer) (s : State) : (storeFrame a s).linkOpen = s.linkOpen := rfl
@[simp] theorem storeFrame_initOk (a : ReadAnswer) (s : State) : (storeFrame a s).initOk = s.initOk := rfl
@[simp] theorem storeFrame_wrShort (a : ReadAnswer) (s : State) : (storeFrame a s).wrShort = s.wrShort := rfl
@[simp] theorem storeFrame_fault (a : ReadAnswer) (s : State) : (storeFrame a s).fault = s.fault := rfl
@[simp] theorem storeFrame_cause (a : ReadAnswer) (s : State) : (storeFrame a s).cause = s.cause := rfl
@[simp] theorem storeFrame_lines (a : ReadAnswer) (s : State) : (storeFrame a s).lines = s.lines := rfl
@[simp] theorem storeFrame_trace (a : ReadAnswer) (s : State) : (storeFrame a s).trace = s.trace := rfl
@[simp] theorem storeFrame_log (a : ReadAnswer) (s : State) : (storeFrame a s).log = s.log := rfl
@[simp] theorem storeFrame_results (a : ReadAnswer) (s : State) : (storeFrame a s).results = s.results := rfl
@[simp] theorem storeFrame_observed (a : ReadAnswer) (s : State) : (storeFrame a s).observed = s.observed := rfl
@[simp] theorem storeFrame_params (a : ReadAnswer) (s : State) : (storeFrame a s).params = s.params := rfl
@[simp] theorem storeFrame_link (a : ReadAnswer) (s : State) : (storeFrame a s).link = s.link := rfl
@[simp] theorem storeFrame_draws (a : ReadAnswer) (s : State) : (storeFrame a s).draws = s.draws := rfl
@[simp] theorem storeFrame_dispatcher (a : ReadAnswer) (s : State) : (storeFrame a s).dispatcher = s.dispatcher := rfl
@[simp] theorem storeFrame_events (a : ReadAnswer) (s : State) : (storeFrame a s).events = s.events := rfl

@[simp] theorem commitFrame_rx (s : State) : (commitFrame s).rx = s.rx := rfl
@[simp] theorem commitFrame_swAddr (s : State) : (commitFrame s).swAddr = (parsedFrame s).1 := rfl
@[simp] theorem commitFrame_swCmd (s : State) : (commitFrame s).swCmd = (parsedFrame s).2 := rfl
@[simp] theorem commitFrame_tx (s : State) : (commitFrame s).tx = s.tx := rfl
@[simp] theorem commitFrame_ph (s : State) : (commitFrame s).ph = s.ph := rfl
@[simp] theorem commitFrame_frameValid (s : State) : (commitFrame s).frameValid = true := rfl
@[simp] theorem commitFrame_linkOpen (s : State) : (commitFrame s).linkOpen = s.linkOpen := rfl
@[simp] theorem commitFrame_initOk (s : State) : (commitFrame s).initOk = s.initOk := rfl
@[simp] theorem commitFrame_wrShort (s : State) : (commitFrame s).wrShort = s.wrShort := rfl
@[simp] theorem commitFrame_fault (s : State) : (commitFrame s).fault = s.fault := rfl
@[simp] theorem commitFrame_cause (s : State) : (commitFrame s).cause = s.cause := rfl
@[simp] theorem commitFrame_lines (s : State) : (commitFrame s).lines = s.lines := rfl
@[simp] theorem commitFrame_trace (s : State) : (commitFrame s).trace = s.trace := rfl
@[simp] theorem commitFrame_log (s : State) : (commitFrame s).log = s.log := rfl
@[simp] theorem commitFrame_results (s : State) : (commitFrame s).results = s.results := rfl
@[simp] theorem commitFrame_observed (s : State) : (commitFrame s).observed = s.observed := rfl
@[simp] theorem commitFrame_params (s : State) : (commitFrame s).params = s.params := rfl
@[simp] theorem commitFrame_link (s : State) : (commitFrame s).link = s.link := rfl
@[simp] theorem commitFrame_draws (s : State) : (commitFrame s).draws = s.draws := rfl
@[simp] theorem commitFrame_dispatcher (s : State) : (commitFrame s).dispatcher = s.dispatcher := rfl
@[simp] theorem commitFrame_events (s : State) : (commitFrame s).events = s.events := rfl

@[simp] theorem latchOperands_rx (st d : Byte) (b : Word16) (s : State) : (latchOperands st d b s).rx = s.rx := rfl
@[simp] theorem latchOperands_swAddr (st d : Byte) (b : Word16) (s : State) : (latchOperands st d b s).swAddr = s.swAddr := rfl
@[simp] theorem latchOperands_swCmd (st d : Byte) (b : Word16) (s : State) : (latchOperands st d b s).swCmd = s.swCmd := rfl
@[simp] theorem latchOperands_tx (st d : Byte) (b : Word16) (s : State) : (latchOperands st d b s).tx = { s.tx with word := pack32 st d b } := rfl
@[simp] theorem latchOperands_ph (st d : Byte) (b : Word16) (s : State) : (latchOperands st d b s).ph = s.ph := rfl
@[simp] theorem latchOperands_frameValid (st d : Byte) (b : Word16) (s : State) : (latchOperands st d b s).frameValid = s.frameValid := rfl
@[simp] theorem latchOperands_linkOpen (st d : Byte) (b : Word16) (s : State) : (latchOperands st d b s).linkOpen = s.linkOpen := rfl
@[simp] theorem latchOperands_initOk (st d : Byte) (b : Word16) (s : State) : (latchOperands st d b s).initOk = s.initOk := rfl
@[simp] theorem latchOperands_wrShort (st d : Byte) (b : Word16) (s : State) : (latchOperands st d b s).wrShort = false := rfl
@[simp] theorem latchOperands_fault (st d : Byte) (b : Word16) (s : State) : (latchOperands st d b s).fault = s.fault := rfl
@[simp] theorem latchOperands_cause (st d : Byte) (b : Word16) (s : State) : (latchOperands st d b s).cause = s.cause := rfl
@[simp] theorem latchOperands_lines (st d : Byte) (b : Word16) (s : State) : (latchOperands st d b s).lines = s.lines := rfl
@[simp] theorem latchOperands_trace (st d : Byte) (b : Word16) (s : State) : (latchOperands st d b s).trace = s.trace := rfl
@[simp] theorem latchOperands_log (st d : Byte) (b : Word16) (s : State) : (latchOperands st d b s).log = s.log := rfl
@[simp] theorem latchOperands_results (st d : Byte) (b : Word16) (s : State) : (latchOperands st d b s).results = s.results := rfl
@[simp] theorem latchOperands_observed (st d : Byte) (b : Word16) (s : State) : (latchOperands st d b s).observed = s.observed := rfl
@[simp] theorem latchOperands_params (st d : Byte) (b : Word16) (s : State) : (latchOperands st d b s).params = s.params := rfl
@[simp] theorem latchOperands_link (st d : Byte) (b : Word16) (s : State) : (latchOperands st d b s).link = s.link := rfl
@[simp] theorem latchOperands_draws (st d : Byte) (b : Word16) (s : State) : (latchOperands st d b s).draws = s.draws := rfl
@[simp] theorem latchOperands_dispatcher (st d : Byte) (b : Word16) (s : State) : (latchOperands st d b s).dispatcher = s.dispatcher := rfl
@[simp] theorem latchOperands_events (st d : Byte) (b : Word16) (s : State) : (latchOperands st d b s).events = s.events := rfl

@[simp] theorem strobeLow_rx (s : State) : (strobeLow s).rx = s.rx := rfl
@[simp] theorem strobeLow_swAddr (s : State) : (strobeLow s).swAddr = s.swAddr := rfl
@[simp] theorem strobeLow_swCmd (s : State) : (strobeLow s).swCmd = s.swCmd := rfl
@[simp] theorem strobeLow_tx (s : State) : (strobeLow s).tx = { s.tx with bitc := 0, bytec := 0 } := rfl
@[simp] theorem strobeLow_ph (s : State) : (strobeLow s).ph = s.ph := rfl
@[simp] theorem strobeLow_frameValid (s : State) : (strobeLow s).frameValid = s.frameValid := rfl
@[simp] theorem strobeLow_linkOpen (s : State) : (strobeLow s).linkOpen = s.linkOpen := rfl
@[simp] theorem strobeLow_initOk (s : State) : (strobeLow s).initOk = s.initOk := rfl
@[simp] theorem strobeLow_wrShort (s : State) : (strobeLow s).wrShort = s.wrShort := rfl
@[simp] theorem strobeLow_fault (s : State) : (strobeLow s).fault = s.fault := rfl
@[simp] theorem strobeLow_cause (s : State) : (strobeLow s).cause = s.cause := rfl
@[simp] theorem strobeLow_lines (s : State) : (strobeLow s).lines = { s.lines with ledStore := .low } := rfl
@[simp] theorem strobeLow_trace (s : State) : (strobeLow s).trace = s.trace ++ [.lineSet .ledStore false] := rfl
@[simp] theorem strobeLow_log (s : State) : (strobeLow s).log = s.log := rfl
@[simp] theorem strobeLow_results (s : State) : (strobeLow s).results = s.results := rfl
@[simp] theorem strobeLow_observed (s : State) : (strobeLow s).observed = s.observed := rfl
@[simp] theorem strobeLow_params (s : State) : (strobeLow s).params = s.params := rfl
@[simp] theorem strobeLow_link (s : State) : (strobeLow s).link = s.link := rfl
@[simp] theorem strobeLow_draws (s : State) : (strobeLow s).draws = s.draws := rfl
@[simp] theorem strobeLow_dispatcher (s : State) : (strobeLow s).dispatcher = s.dispatcher := rfl
@[simp] theorem strobeLow_events (s : State) : (strobeLow s).events = s.events := rfl

@[simp] theorem applyReset_rx (s : State) : (applyReset s).rx = State.reset.rx := rfl
@[simp] theorem applyReset_swAddr (s : State) : (applyReset s).swAddr = 0 := rfl
@[simp] theorem applyReset_swCmd (s : State) : (applyReset s).swCmd = 0 := rfl
@[simp] theorem applyReset_tx (s : State) : (applyReset s).tx = State.reset.tx := rfl
@[simp] theorem applyReset_ph (s : State) : (applyReset s).ph = .idle := rfl
@[simp] theorem applyReset_frameValid (s : State) : (applyReset s).frameValid = false := rfl
@[simp] theorem applyReset_linkOpen (s : State) : (applyReset s).linkOpen = false := rfl
@[simp] theorem applyReset_initOk (s : State) : (applyReset s).initOk = false := rfl
@[simp] theorem applyReset_wrShort (s : State) : (applyReset s).wrShort = false := rfl
@[simp] theorem applyReset_fault (s : State) : (applyReset s).fault = false := rfl
@[simp] theorem applyReset_cause (s : State) : (applyReset s).cause = .noFault := rfl
@[simp] theorem applyReset_lines (s : State) : (applyReset s).lines = Lines.undriven := rfl
@[simp] theorem applyReset_trace (s : State) : (applyReset s).trace = [] := rfl
@[simp] theorem applyReset_log (s : State) : (applyReset s).log = [] := rfl
@[simp] theorem applyReset_results (s : State) : (applyReset s).results = [] := rfl
@[simp] theorem applyReset_observed (s : State) : (applyReset s).observed = [] := rfl
@[simp] theorem applyReset_params (s : State) : (applyReset s).params = s.params := rfl
@[simp] theorem applyReset_link (s : State) : (applyReset s).link = s.link := rfl
@[simp] theorem applyReset_draws (s : State) : (applyReset s).draws = s.draws := rfl
@[simp] theorem applyReset_dispatcher (s : State) : (applyReset s).dispatcher = s.dispatcher := rfl
@[simp] theorem applyReset_events (s : State) : (applyReset s).events = s.events := rfl

/-! ### What reads a field is blind to the others -/

@[simp] theorem setLevel_swCsN_low (ls : Lines) : setLevel ls .swCsN (levelOf false) = { ls with swCsN := .low } := rfl
@[simp] theorem setLevel_swCsN_high (ls : Lines) : setLevel ls .swCsN (levelOf true) = { ls with swCsN := .high } := rfl
@[simp] theorem setLevel_swLoad_low (ls : Lines) : setLevel ls .swLoad (levelOf false) = { ls with swLoad := .low } := rfl
@[simp] theorem setLevel_swLoad_high (ls : Lines) : setLevel ls .swLoad (levelOf true) = { ls with swLoad := .high } := rfl
@[simp] theorem setLevel_ledStore_low (ls : Lines) :
    setLevel ls .ledStore (levelOf false) = { ls with ledStore := .low } := rfl
@[simp] theorem setLevel_ledStore_high (ls : Lines) :
    setLevel ls .ledStore (levelOf true) = { ls with ledStore := .high } := rfl

end Sys2Proof.Machine
end

