-- ==== Sys2Proof/Laws/Words.lean ====
section
/-! SUPPORT. The operand functions and the transforms, in the shapes proofs use: concatenations and bits. -/

namespace Sys2Proof.Machine

/-- The shifted fields of the switch word do not overlap (30_encoding.md R61). -/
theorem asm24_eq_append (b0 b1 b2 : Byte) : asm24 b0 b1 b2 = b2 ++ b1 ++ b0 := by
  apply BitVec.eq_of_getLsbD_eq
  intro i hi
  simp only [asm24, BitVec.getLsbD_or, BitVec.getLsbD_shiftLeft, BitVec.getLsbD_append, BitVec.getLsbD_setWidth]
  interval_cases i <;> simp

theorem splitCmd_asm24 (b0 b1 b2 : Byte) : splitCmd (asm24 b0 b1 b2) = b2 := by
  apply BitVec.eq_of_getLsbD_eq
  intro i hi
  simp only [splitCmd, asm24_eq_append, BitVec.getLsbD_append, BitVec.getLsbD_extractLsb']
  interval_cases i <;> simp

theorem splitRaw_asm24 (b0 b1 b2 : Byte) : splitRaw (asm24 b0 b1 b2) = b1 ++ b0 := by
  apply BitVec.eq_of_getLsbD_eq
  intro i hi
  simp only [splitRaw, asm24_eq_append, BitVec.getLsbD_append, BitVec.getLsbD_extractLsb']
  interval_cases i <;> simp

/-- The fields of the LED word do not overlap (40_transform.md R90). -/
theorem pack32_eq_append (st d : Byte) (b : Word16) : pack32 st d b = st ++ d ++ b := by
  apply BitVec.eq_of_getLsbD_eq
  intro i hi
  simp only [pack32, BitVec.getLsbD_or, BitVec.getLsbD_shiftLeft, BitVec.getLsbD_append, BitVec.getLsbD_setWidth]
  interval_cases i <;> simp

theorem ledByte_pack32_zero (st d : Byte) (b : Word16) : ledByte (pack32 st d b) 0 = loByte b := by
  apply BitVec.eq_of_getLsbD_eq
  intro i hi
  simp only [ledByte, loByte, pack32_eq_append, BitVec.getLsbD_append, BitVec.getLsbD_extractLsb']
  interval_cases i <;> simp

theorem ledByte_pack32_one (st d : Byte) (b : Word16) : ledByte (pack32 st d b) 1 = hiByte b := by
  apply BitVec.eq_of_getLsbD_eq
  intro i hi
  simp only [ledByte, hiByte, pack32_eq_append, BitVec.getLsbD_append, BitVec.getLsbD_extractLsb']
  interval_cases i <;> simp

theorem ledByte_pack32_two (st d : Byte) (b : Word16) : ledByte (pack32 st d b) 2 = d := by
  apply BitVec.eq_of_getLsbD_eq
  intro i hi
  simp only [ledByte, pack32_eq_append, BitVec.getLsbD_append, BitVec.getLsbD_extractLsb']
  interval_cases i <;> simp

theorem ledByte_pack32_three (st d : Byte) (b : Word16) : ledByte (pack32 st d b) 3 = st := by
  apply BitVec.eq_of_getLsbD_eq
  intro i hi
  simp only [ledByte, pack32_eq_append, BitVec.getLsbD_append, BitVec.getLsbD_extractLsb']
  interval_cases i <;> simp

/-- The two bytes of a 16-bit operand give it back. -/
theorem hiByte_append_loByte (b : Word16) : hiByte b ++ loByte b = b := by
  apply BitVec.eq_of_getLsbD_eq
  intro i hi
  simp only [loByte, hiByte, BitVec.getLsbD_append, BitVec.getLsbD_extractLsb']
  interval_cases i <;> simp

theorem loByte_append (h l : Byte) : loByte (h ++ l) = l := by
  apply BitVec.eq_of_getLsbD_eq
  intro i hi
  simp only [loByte, BitVec.getLsbD_append, BitVec.getLsbD_extractLsb']
  interval_cases i <;> simp

theorem hiByte_append (h l : Byte) : hiByte (h ++ l) = h := by
  apply BitVec.eq_of_getLsbD_eq
  intro i hi
  simp only [hiByte, BitVec.getLsbD_append, BitVec.getLsbD_extractLsb']
  interval_cases i <;> simp

/-- One lookup as four single bits. -/
theorem rev4_eq_bits (x : Nibble) :
    rev4 x = x.extractLsb' 0 1 ++ x.extractLsb' 1 1 ++ x.extractLsb' 2 1 ++ x.extractLsb' 3 1 := by
  revert x
  decide

/-- The four placed nibbles do not overlap (40_transform.md R84). -/
theorem perm16_eq_append (r : Word16) :
    perm16 r = rev4 (nibble r 0) ++ rev4 (nibble r 1) ++ rev4 (nibble r 2) ++ rev4 (nibble r 3) := by
  apply BitVec.eq_of_getLsbD_eq
  intro i hi
  simp only [perm16, BitVec.getLsbD_or, BitVec.getLsbD_shiftLeft, BitVec.getLsbD_append, BitVec.getLsbD_setWidth]
  interval_cases i <;> simp

end Sys2Proof.Machine
end

