-- ==== Sys2Proof/Laws/Ops.lean ====
section
/-! SUPPORT. What each shared operation can do, said once: later proofs cite these instead of unfolding. -/

namespace Sys2Proof.Machine

/-! ### Acceptance -/

theorem ifAccepted_idle (body : State → State) {s : State} (h : s.ph = .idle) : ifAccepted body s = body s := by
  simp [ifAccepted, h]

theorem ifAccepted_ignored (body : State → State) {s : State} (h : s.ph ≠ .idle) : ifAccepted body s = s := by
  simp [ifAccepted, h]

/-! ### The answers of the Link -/

theorem readAnswer_open {s : State} (h : s.linkOpen = true) : readAnswer s = nextRead s := by simp [readAnswer, h]

theorem readAnswer_closed {s : State} (h : s.linkOpen = false) : readAnswer s = ⟨0, 0, 0, 0⟩ := by simp [readAnswer, h]

theorem deliveredBytes_three {a : ReadAnswer} (h : a.cnt = 3) : deliveredBytes a = [a.b0, a.b1, a.b2] := by
  simp [deliveredBytes, h, Config.rxFrameBytes]

theorem deliveredBytes_length (a : ReadAnswer) : (deliveredBytes a).length = (max 0 (min a.cnt 3)).toNat := by
  simp only [deliveredBytes, Config.rxFrameBytes, List.length_take, List.length_cons, List.length_nil]
  omega

/-- The select and load steps change the lines and the trace, so the Link's answer is that of the state before. -/
theorem readAnswer_selectAndLoad (s : State) : readAnswer (selectAndLoad s) = readAnswer s := rfl

theorem txBytes_length (s : State) : (txBytes s).length = s.params.ledFrameBytes.count := by
  simp only [txBytes]
  cases s.params.ledFrameBytes <;> rfl

/-- The bytes of a latched LED frame (20_memory.md R46, 42_led_write.md R123). -/
theorem txBytes_of_word {s : State} {st d : Byte} {b : Word16} (h : s.tx.word = pack32 st d b) :
    txBytes s = [loByte b, hiByte b, d, st].take s.params.ledFrameBytes.count := by
  simp only [txBytes, h]
  cases s.params.ledFrameBytes <;>
    simp [ser, ser32, ser24, LedFrameBytes.count, ledByte_pack32_zero, ledByte_pack32_one, ledByte_pack32_two,
      ledByte_pack32_three]

/-! ### The read -/

theorem acceptRead_three {a : ReadAnswer} (ok : State → State) (s : State) (h : a.cnt = 3) :
    acceptRead a ok s = ok (storeFrame a s) := by
  simp [acceptRead, h, Config.rxFrameBytes]

theorem acceptRead_fault {a : ReadAnswer} (ok : State → State) (s : State) (h : a.cnt ≠ 3) :
    acceptRead a ok s = raiseLinkFault a.cnt s := by
  simp [acceptRead, h, Config.rxFrameBytes]

theorem parse24_eq (b0 b1 b2 : Byte) : parse24 b0 b1 b2 = (decode16 (b1 ++ b0), b2) := by
  simp [parse24, splitRaw_asm24, splitCmd_asm24]

/-! ### The byte counters -/

@[simp] theorem byteCount_val (n : Nat) : (byteCount n).val = min n 4 := rfl

@[simp] theorem byteCount_of_counter (n : Fin 5) : byteCount n.val = n := by
  apply Fin.ext
  simp only [byteCount_val]
  omega

@[simp] theorem countByte_byteCount (n : Nat) : countByte (byteCount n) = byteCount (n + 1) := by
  apply Fin.ext
  simp only [countByte, byteCount_val]
  omega

/-! ### The write -/

theorem checkShort_full {s : State} (h : s.tx.cnt = ledFrameCount s) : checkShort s = s := by
  simp [checkShort, isShort, h]

theorem checkShort_short {s : State} (h : s.tx.cnt ≠ ledFrameCount s) :
    checkShort s = { s with wrShort := true, log := s.log ++ [.shortWrite s.tx.cnt] } := by
  simp [checkShort, isShort, h]

/-- Everything the short-write check can do (42_led_write.md R124). -/
theorem checkShort_cases (s : State) :
    (s.tx.cnt = ledFrameCount s ∧ checkShort s = s) ∨
      (s.tx.cnt ≠ ledFrameCount s ∧
        checkShort s = { s with wrShort := true, log := s.log ++ [.shortWrite s.tx.cnt] }) := by
  rcases eq_or_ne s.tx.cnt (ledFrameCount s) with h | h
  · exact .inl ⟨h, checkShort_full h⟩
  · exact .inr ⟨h, checkShort_short h⟩

@[simp] theorem txAfterLinkWrite_cnt (s : State) : (txAfterLinkWrite s).cnt = writeAnswer s := by
  simp only [txAfterLinkWrite, writeAnswer]
  split
  · simp only [txAfterWrite]
    split <;> rfl
  · rfl

@[simp] theorem txAfterLinkWrite_word (s : State) : (txAfterLinkWrite s).word = s.tx.word := by
  simp only [txAfterLinkWrite]
  split
  · simp only [txAfterWrite]
    split <;> rfl
  · rfl

theorem linkAfterRead_open {s : State} (h : s.linkOpen = true) :
    linkAfterRead s = { s.link with reads := s.link.reads.tail } := by simp [linkAfterRead, h]

theorem linkAfterRead_closed {s : State} (h : s.linkOpen = false) : linkAfterRead s = s.link := by
  simp [linkAfterRead, h]

theorem linkAfterWrite_open {s : State} (h : s.linkOpen = true) :
    linkAfterWrite s = { s.link with writes := s.link.writes.tail } := by simp [linkAfterWrite, h]

theorem linkAfterWrite_closed {s : State} (h : s.linkOpen = false) : linkAfterWrite s = s.link := by
  simp [linkAfterWrite, h]

/-- The transmit registers after a write depend on the latched word, the parameters and the counter of the free values
alone. -/
theorem txAfterWrite_congr (cnt : Int) {s s' : State} (hw : s.tx.word = s'.tx.word) (hp : s.params = s'.params)
    (hd : s.draws = s'.draws) : txAfterWrite cnt s = txAfterWrite cnt s' := by
  have hl : ledFrameCount s = ledFrameCount s' := by simp [ledFrameCount, hp]
  unfold txAfterWrite
  by_cases h : cnt = ledFrameCount s'
  · rw [if_pos (hl ▸ h), if_pos h]
    dsimp only
    rw [hw, hp]
  · rw [if_neg (hl ▸ h), if_neg h]
    dsimp only
    rw [hw, hd]
    by_cases k : 0 ≤ cnt ∧ cnt < ledFrameCount s'
    · rw [if_pos (hl ▸ k), if_pos k]
    · rw [if_neg (hl ▸ k), if_neg k]

/-- The check of a write touches `wr_short` and the log alone. -/
theorem checkShort_frame (s : State) : ∃ short log, checkShort s = { s with wrShort := short, log := log } := by
  rcases checkShort_cases s with ⟨_, h⟩ | ⟨_, h⟩
  · exact ⟨s.wrShort, s.log, h⟩
  · exact ⟨_, _, h⟩

theorem writeBody_tx (st d : Byte) (b : Word16) (s : State) :
    (writeBody st d b s).tx = txAfterLinkWrite (strobeLow (latchOperands st d b s)) := by
  simp only [writeBody, strobeHighAndCheck]
  obtain ⟨_, _, h⟩ := checkShort_frame (driveLine .ledStore true (linkWrite (strobeLow (latchOperands st d b s))))
  rw [h]
  rfl

theorem writeBody_draws (st d : Byte) (b : Word16) (s : State) : (writeBody st d b s).draws = drawsAfter s := by
  simp only [writeBody, strobeHighAndCheck]
  obtain ⟨_, _, h⟩ := checkShort_frame (driveLine .ledStore true (linkWrite (strobeLow (latchOperands st d b s))))
  rw [h]
  rfl

/-- What the Link answers does not depend on the steps of a write before it. -/
theorem writeAnswer_strobeLow (st d : Byte) (b : Word16) (s : State) :
    writeAnswer (strobeLow (latchOperands st d b s)) = writeAnswer s := rfl

theorem linkAfterWrite_strobeLow (st d : Byte) (b : Word16) (s : State) :
    linkAfterWrite (strobeLow (latchOperands st d b s)) = linkAfterWrite s := rfl

theorem linkAfterRead_selectAndLoad (s : State) : linkAfterRead (selectAndLoad s) = linkAfterRead s := rfl

/-! ### The step -/

theorem step_start {s : State} {r : Request} {rest : List Event} {i : Instr} (he : s.events = .start r :: rest)
    (hd : decode r = .ok i) : step s = exec i { s with events := rest } := by
  simp [step, nextEvent, applyEvent, he, hd]

theorem step_other {s s' : State} (h : applyEvent (nextEvent s).1 (nextEvent s).2 = .inr s') : step s = .next s' := by
  simp [step, h]

/-- Everything a step that answers a next state can be: a decoded request run by `exec`, or another event. -/
theorem step_cases {s t : State} (h : step s = .next t) :
    (∃ r i, applyEvent (nextEvent s).1 (nextEvent s).2 = .inl r ∧ decode r = .ok i ∧ exec i (nextEvent s).2 = .next t) ∨
      applyEvent (nextEvent s).1 (nextEvent s).2 = .inr t := by
  simp only [step] at h
  split at h
  · next s' hs => exact .inr (by simpa [hs] using h)
  · next r hr =>
    split at h
    · next i hi => exact .inl ⟨r, i, hr, hi, h⟩
    · cases h

/-- Everything `exec` can answer: each meaning is a next state. -/
theorem exec_next (i : Instr) (s : State) : ∃ t, exec i s = .next t := by
  cases i <;> exact ⟨_, rfl⟩

end Sys2Proof.Machine
end

