-- ==== Sys2Proof/Laws/PerInstr.lean ====
section
/-! SUPPORT. Statements for all instructions, one lemma per constructor. -/

namespace Sys2Proof.Laws.EncodeShape

/-- The request of an instruction has the length of its format and no bit outside the format's width. -/
def Statement (i : Instr) : Prop := (encode i).wellFormed = true ∧ i.wellFormed = true

theorem nop : Statement .nop := ⟨rfl, rfl⟩
theorem init : Statement .init := ⟨rfl, rfl⟩
theorem rdsw : Statement .rdsw := ⟨rfl, rfl⟩
theorem wrled (st d : Byte) (b : Word16) : Statement (.wrled st d b) := ⟨rfl, rfl⟩
theorem swframe (c h l : Byte) : Statement (.swframe c h l) := ⟨rfl, rfl⟩
theorem ledframe (st d : Byte) (b : Word16) : Statement (.ledframe st d b) := ⟨rfl, rfl⟩
theorem ledframe3 (d : Byte) (b : Word16) : Statement (.ledframe3 d b) := ⟨rfl, rfl⟩
theorem rev4_0 : Statement .rev4_0 := ⟨rfl, rfl⟩
theorem rev4_1 : Statement .rev4_1 := ⟨rfl, rfl⟩
theorem rev4_2 : Statement .rev4_2 := ⟨rfl, rfl⟩
theorem rev4_3 : Statement .rev4_3 := ⟨rfl, rfl⟩
theorem rev4_4 : Statement .rev4_4 := ⟨rfl, rfl⟩
theorem rev4_5 : Statement .rev4_5 := ⟨rfl, rfl⟩
theorem rev4_6 : Statement .rev4_6 := ⟨rfl, rfl⟩
theorem rev4_7 : Statement .rev4_7 := ⟨rfl, rfl⟩
theorem rev4_8 : Statement .rev4_8 := ⟨rfl, rfl⟩
theorem rev4_9 : Statement .rev4_9 := ⟨rfl, rfl⟩
theorem rev4_A : Statement .rev4_A := ⟨rfl, rfl⟩
theorem rev4_B : Statement .rev4_B := ⟨rfl, rfl⟩
theorem rev4_C : Statement .rev4_C := ⟨rfl, rfl⟩
theorem rev4_D : Statement .rev4_D := ⟨rfl, rfl⟩
theorem rev4_E : Statement .rev4_E := ⟨rfl, rfl⟩
theorem rev4_F : Statement .rev4_F := ⟨rfl, rfl⟩

end Sys2Proof.Laws.EncodeShape
end

