-- ==== Sys2Proof/Laws/Phases.lean ====
section
/-! SUPPORT. The phases one by one: the primitives neither read nor write `ph`, so each phase of an operation is the
primitive of its row (41_switch_read.md R107, 42_led_write.md R127, 43_init.md R148) on the state before, in the next phase. -/

namespace Sys2Proof.Machine

/-! ### The primitives and the phase -/

@[simp] theorem setPh_setPh (p q : Phase) (s : State) : setPh p (setPh q s) = setPh p s := rfl

theorem setPh_self {p : Phase} {s : State} (h : s.ph = p) : setPh p s = s := by
  subst h
  rfl

@[simp] theorem driveLine_setPh (l : Line) (v : Bool) (p : Phase) (s : State) :
    driveLine l v (setPh p s) = setPh p (driveLine l v s) := rfl

@[simp] theorem linesReset_setPh (p : Phase) (s : State) : linesReset (setPh p s) = setPh p (linesReset s) := rfl

@[simp] theorem delayFor_setPh (t : Duration) (p : Phase) (s : State) :
    delayFor t (setPh p s) = setPh p (delayFor t s) := rfl

@[simp] theorem linkOpenDevice_setPh (c : SerialCfg) (p : Phase) (s : State) :
    linkOpenDevice c (setPh p s) = setPh p (linkOpenDevice c s) := rfl

@[simp] theorem linkRead_setPh (p : Phase) (s : State) : linkRead (setPh p s) = setPh p (linkRead s) := rfl

@[simp] theorem linkWrite_setPh (p : Phase) (s : State) : linkWrite (setPh p s) = setPh p (linkWrite s) := rfl

@[simp] theorem strobeLow_setPh (p : Phase) (s : State) : strobeLow (setPh p s) = setPh p (strobeLow s) := rfl

@[simp] theorem latchOperands_setPh (st d : Byte) (b : Word16) (p : Phase) (s : State) :
    latchOperands st d b (setPh p s) = setPh p (latchOperands st d b s) := rfl

@[simp] theorem storeFrame_setPh (a : ReadAnswer) (p : Phase) (s : State) :
    storeFrame a (setPh p s) = setPh p (storeFrame a s) := rfl

@[simp] theorem commitFrame_setPh (p : Phase) (s : State) : commitFrame (setPh p s) = setPh p (commitFrame s) := rfl

@[simp] theorem checkShort_setPh (p : Phase) (s : State) : checkShort (setPh p s) = setPh p (checkShort s) := by
  rcases eq_or_ne s.tx.cnt (ledFrameCount s) with h | h
  · rw [checkShort_full h, checkShort_full (s := setPh p s) h]
  · rw [checkShort_short h, checkShort_short (s := setPh p s) h]
    rfl

@[simp] theorem strobeHighAndCheck_setPh (p : Phase) (s : State) :
    strobeHighAndCheck (setPh p s) = setPh p (strobeHighAndCheck s) := by
  simp only [strobeHighAndCheck, driveLine_setPh, checkShort_setPh]

@[simp] theorem complete_setPh (d : Done) (p : Phase) (s : State) : complete d (setPh p s) = complete d s := rfl

@[simp] theorem raiseLinkFault_setPh (cnt : Int) (p : Phase) (s : State) :
    raiseLinkFault cnt (setPh p s) = raiseLinkFault cnt s := rfl

@[simp] theorem finishRead_setPh (p : Phase) (s : State) : finishRead (setPh p s) = finishRead s := rfl

@[simp] theorem readAnswer_setPh (p : Phase) (s : State) : readAnswer (setPh p s) = readAnswer s := rfl

/-! ### The phases of RDSW -/

theorem tick_rd1 (s : State) : tick (setPh .rd1 s) = setPh .rd2 (driveLine .swCsN false s) := rfl

theorem tick_rd2 (s : State) : tick (setPh .rd2 s) = setPh .rd3 (driveLine .swLoad false s) := rfl

/-- `RD3` clears the receive counters (10_state.md R17). -/
theorem tick_rd3 (s : State) :
    tick (setPh .rd3 s) =
      setPh .rd4 { driveLine .swLoad true s with rx := { s.rx with bitc := 0, bytec := 0 } } := rfl

/-- `RD4`, the read in one go. -/
theorem tick_rd4 {s : State} (h : receiving s = false) :
    tick (setPh .rd4 s) = acceptRead (readAnswer s) (setPh .rd5) (setPh .rd4 (linkRead s)) := by
  simp only [tick, setPh_ph, readPhase, receiving, setPh_rx] at h ⊢
  simp only [h, if_false, Bool.false_eq_true, readAnswer_setPh, linkRead_setPh]

theorem tick_rd5 (s : State) : tick (setPh .rd5 s) = finishRead s := rfl

/-! ### The phases of WRLED -/

theorem tick_wr1 (s : State) : tick (setPh .wr1 s) = setPh .wr2 (strobeLow s) := rfl

/-- `WR2`, `IN4`, `IN8`, the write in one go. -/
theorem writePhase_setPh (p q : Phase) {s : State} (h : transmitting s = false) :
    writePhase p (setPh q s) = setPh p (linkWrite s) := by
  simp only [writePhase, transmitting, setPh_tx] at h ⊢
  simp only [h, if_false, Bool.false_eq_true, linkWrite_setPh, setPh_setPh]

theorem transmitting_strobeLow (s : State) : transmitting (strobeLow s) = false := rfl

theorem tick_wr3 (s : State) : tick (setPh .wr3 s) = finishWrite s := by
  simp only [tick, setPh_ph, finishWrite, strobeHighAndCheck_setPh, complete_setPh, setPh_wrShort]

/-! ### The end of a write phase at the finer levels -/

/-- Everything the end of a write phase does (42_led_write.md R127, R129). -/
theorem endWrite_writing (cnt : Int) {s : State} {p : Phase} (h : afterWrite s.ph = some p) :
    endWrite cnt s =
      { s with tx := { s.tx with cnt := cnt }, ph := p, trace := s.trace ++ [.write (txBytes s) cnt] } := by
  simp only [endWrite, h]
  rfl

theorem endWrite_other (cnt : Int) {s : State} (h : afterWrite s.ph = none) : endWrite cnt s = s := by
  simp only [endWrite, h]

/-- A byte that is not the frame's last is counted and nothing else. -/
theorem byteTaken_more {s : State} (h : ((countByte s.tx.bytec).val : Int) ≠ ledFrameCount s) :
    byteTaken s = { s with tx := { s.tx with bytec := countByte s.tx.bytec } } := if_neg h

/-- The frame's last byte ends the phase with the frame's length as the count. -/
theorem byteTaken_last {s : State} (h : ((countByte s.tx.bytec).val : Int) = ledFrameCount s) :
    byteTaken s = endWrite (ledFrameCount s) { s with tx := { s.tx with bytec := countByte s.tx.bytec } } := if_pos h

theorem txEnd_writing {s : State} {p : Phase} (h : afterWrite s.ph = some p) :
    txEnd s = endWrite s.tx.bytec.val (emit .txEnd s) := by
  simp only [txEnd, h]
  rfl

theorem txEnd_other {s : State} (h : afterWrite s.ph = none) : txEnd s = s := by
  simp [txEnd, h]

/-! ### The end of an operation -/

theorem ticks_idle (n : Nat) {s : State} (h : s.ph = .idle) : ticks n s = s := by
  induction n with
  | zero => rfl
  | succ n ih => simp [ticks, tick, h, ih]

theorem ticks_halt (n : Nat) {s : State} (h : s.ph = .halt) : ticks n s = s := by
  induction n with
  | zero => rfl
  | succ n ih => simp [ticks, tick, h, ih]

end Sys2Proof.Machine
end

