-- ==== Sys2Proof/Tests/Slice0.lean ====
section
/-! SUPPORT. The model's own tests. Expected values are the spec's: the encodings of opcode_table.json and 30_encoding.md, and
the vectors E1 to E8, V1 to V10 of 95_test_vectors.md; each group names its source. The last part gives every obligation
that has hypotheses a concrete state and operands that meet them all. -/

namespace Sys2Proof.Machine.Tests

/-! ### Helpers -/

/-- The state that an outcome answers. -/
def after : Host.Outcome State Fault Refusal → State
  | .next s => s
  | .fault _ => State.reset
  | .refused _ => State.reset

/-- A machine as a successful INIT leaves it, with answers of the Link to come. -/
def ready (reads : List ReadAnswer) (writes : List Int) : State :=
  { State.reset with linkOpen := true, initOk := true, lines := safeLines Params.default, link := ⟨[], reads, writes⟩ }

/-- A machine after reset, with answers of the Link to come. -/
def fresh (opens : List Bool) (writes : List Int) : State := { State.reset with link := ⟨opens, [], writes⟩ }

/-- A machine whose next event is `e`. -/
def facing (e : Event) (s : State) : State := { s with events := [e] }

/-- A machine in HALT. -/
def halted : State := { State.reset with ph := .halt, fault := true, cause := .linkRd }

/-- A machine in RD4 with the device open, `k` whole bytes and `c` bits in. -/
def inRead (k : Fin 5) (c : BitVec 3) : State :=
  { ready [] [] with ph := .rd4, rx := ⟨0, 0, 0, 0, c, k⟩, lines := { safeLines Params.default with swCsN := .low } }

/-- A machine in WR2 with the device open and the word of `WRLED 0x12, 0x34, 0x5678`. -/
def inWrite : State :=
  { ready [] [] with
    ph := .wr2, tx := ⟨0x12345678, 0, 0, 0, 0⟩, lines := { safeLines Params.default with ledStore := .low } }

/-! ### Well-formedness refuses each ill-formed request -/

theorem test_wellFormed_refuses_a_short_start : (Request.mk .cmd2 [0x01]).wellFormed = false := by decide
theorem test_wellFormed_refuses_a_long_switch_frame : (Request.mk .frame24 [1, 2, 3, 4]).wellFormed = false := by decide
theorem test_wellFormed_refuses_a_short_led_frame : (Request.mk .frame32 [1, 2, 3]).wellFormed = false := by decide
theorem test_wellFormed_refuses_start_padding : (Request.mk .cmd2 [0x04, 0, 0, 0, 0]).wellFormed = false := by decide
theorem test_wellFormed_refuses_index_padding : (Request.mk .lut4 [0x10]).wellFormed = false := by decide
theorem test_wellFormed_takes_every_code : (Request.mk .cmd2 [0x03, 0xFF, 0xFF, 0xFF, 0xFF]).wellFormed = true := by decide

/-! ### Decoding, the words written out from the encodings of opcode_table.json -/

theorem test_decode_nop : decode ⟨.cmd2, [0b00, 0, 0, 0, 0]⟩ = .ok .nop := rfl
theorem test_decode_init : decode ⟨.cmd2, [0b01, 0, 0, 0, 0]⟩ = .ok .init := rfl
theorem test_decode_rdsw : decode ⟨.cmd2, [0b10, 0, 0, 0, 0]⟩ = .ok .rdsw := rfl
/-- `s = 0xA2`, `d = 0x3E`, `b = 0x0100` (V7). -/
theorem test_decode_wrled :
    decode ⟨.cmd2, [0b11, 0b10100010, 0b00111110, 0b00000000, 0b00000001]⟩ = .ok (.wrled 0xA2 0x3E 0x0100) := rfl
/-- The word 0x561234 in wire order (V3). -/
theorem test_decode_swframe :
    decode ⟨.frame24, [0b00110100, 0b00010010, 0b01010110]⟩ = .ok (.swframe 0x56 0x12 0x34) := rfl
/-- The word 0x12345678 in wire order (V4). -/
theorem test_decode_ledframe :
    decode ⟨.frame32, [0b01111000, 0b01010110, 0b00110100, 0b00010010]⟩ = .ok (.ledframe 0x12 0x34 0x5678) := rfl
/-- The word 0x345678 in wire order (V4, SER24). -/
theorem test_decode_ledframe3 :
    decode ⟨.frame24led, [0b01111000, 0b01010110, 0b00110100]⟩ = .ok (.ledframe3 0x34 0x5678) := rfl
theorem test_decode_rev4_0 : decode ⟨.lut4, [0b0000]⟩ = .ok .rev4_0 := rfl
theorem test_decode_rev4_1 : decode ⟨.lut4, [0b0001]⟩ = .ok .rev4_1 := rfl
theorem test_decode_rev4_2 : decode ⟨.lut4, [0b0010]⟩ = .ok .rev4_2 := rfl
theorem test_decode_rev4_3 : decode ⟨.lut4, [0b0011]⟩ = .ok .rev4_3 := rfl
theorem test_decode_rev4_4 : decode ⟨.lut4, [0b0100]⟩ = .ok .rev4_4 := rfl
theorem test_decode_rev4_5 : decode ⟨.lut4, [0b0101]⟩ = .ok .rev4_5 := rfl
theorem test_decode_rev4_6 : decode ⟨.lut4, [0b0110]⟩ = .ok .rev4_6 := rfl
theorem test_decode_rev4_7 : decode ⟨.lut4, [0b0111]⟩ = .ok .rev4_7 := rfl
theorem test_decode_rev4_8 : decode ⟨.lut4, [0b1000]⟩ = .ok .rev4_8 := rfl
theorem test_decode_rev4_9 : decode ⟨.lut4, [0b1001]⟩ = .ok .rev4_9 := rfl
theorem test_decode_rev4_A : decode ⟨.lut4, [0b1010]⟩ = .ok .rev4_A := rfl
theorem test_decode_rev4_B : decode ⟨.lut4, [0b1011]⟩ = .ok .rev4_B := rfl
theorem test_decode_rev4_C : decode ⟨.lut4, [0b1100]⟩ = .ok .rev4_C := rfl
theorem test_decode_rev4_D : decode ⟨.lut4, [0b1101]⟩ = .ok .rev4_D := rfl
theorem test_decode_rev4_E : decode ⟨.lut4, [0b1110]⟩ = .ok .rev4_E := rfl
theorem test_decode_rev4_F : decode ⟨.lut4, [0b1111]⟩ = .ok .rev4_F := rfl

/-- The table's own numbering: bit 0 is the low bit of the first wire byte. -/
theorem test_decodeTableWord_swframe : decodeTableWord 24 0x561234 = some (.swframe 0x56 0x12 0x34) := rfl
theorem test_decodeTableWord_rdsw : decodeTableWord 8 0b10 = some .rdsw := rfl
theorem test_decodeTableWord_rev4_A : decodeTableWord 8 0xA = some .rev4_A := rfl

/-! ### The transforms (V1 to V4) -/

theorem test_decode16_moves_nibble_0_up : decode16 0x000A = 0xAFFF := by decide
theorem test_decode16_bit_15 : decode16 0x8000 = 0xFFFE := by decide
theorem test_decode16_C0DE : decode16 0xC0DE = 0x84FC := by decide
theorem test_encode16_wanted_address : encode16 0xC000 = 0xFFFC := by decide
theorem test_parse24_cmd_is_not_inverted : parse24 0x01 0x00 0x80 = (0x7FFF, 0x80) := by decide
theorem test_ser32_low_byte_first : ser32 (pack32 0xA2 0x3E 0x0100) = [0x00, 0x01, 0x3E, 0xA2] := by decide
theorem test_ser24_drops_status : ser24 (pack32 0x12 0x34 0x5678) = [0x78, 0x56, 0x34] := by decide

/-! ### The operations (V6 to V9) -/

theorem test_nop_leaves_the_lines : (after (exec .nop State.reset)).lines = Lines.undriven := by decide
theorem test_nop_ignored_in_halt : (after (exec .nop halted)).results = [] := by decide

theorem test_rdsw_commits :
    let t := after (exec .rdsw (ready [⟨3, 0x34, 0x12, 0x56⟩] []))
    t.swAddr = 0xD3B7 ∧ t.swCmd = 0x56 ∧ t.results = [.rdsw 0xD3B7 0x56] ∧
      t.trace = [.lineSet .swCsN false, .lineSet .swLoad false, .lineSet .swLoad true, .read 3 3 [0x34, 0x12, 0x56],
        .lineSet .swCsN true] := by decide

theorem test_rdsw_short_read_faults :
    let t := after (exec .rdsw { ready [⟨2, 0x34, 0x12, 0⟩] [] with swAddr := 0x1111, swCmd := 0x22, frameValid := true })
    t.ph = .halt ∧ t.log = [.linkFault .linkRd 2] ∧ t.swAddr = 0x1111 ∧ t.frameValid = true ∧ t.results = [] ∧
      t.lines = Lines.undriven := by decide

theorem test_wrled_full :
    let t := after (exec (.wrled 0xA2 0x3E 0x0100) (ready [] [4]))
    t.tx.word = 0xA23E0100 ∧ t.results = [.wrled false] ∧ t.log = [] ∧
      t.trace = [.lineSet .ledStore false, .write [0x00, 0x01, 0x3E, 0xA2] 4, .lineSet .ledStore true] := by decide

theorem test_wrled_negative_count :
    let t := after (exec (.wrled 0xA2 0x3E 0x0100) (ready [] [-1]))
    t.ph = .idle ∧ t.wrShort = true ∧ t.results = [.wrled true] ∧ t.log = [.shortWrite (-1)] := by decide

theorem test_init_second_pattern_clears_wrShort :
    let t := after (exec .init (fresh [true] [2, 4]))
    t.initOk = true ∧ t.wrShort = false ∧ t.tx.word = 0xAAAAAAAA ∧ t.log = [.shortWrite 2] ∧
      t.lines = ⟨.high, .high, .high, .high, .low⟩ := by decide

theorem test_init_fails :
    let t := after (exec .init { fresh [false] [] with linkOpen := true, wrShort := true })
    t.results = [.init false] ∧ t.linkOpen = false ∧ t.wrShort = true ∧ t.log = [.initFail] ∧
      t.trace = [.linesReset ⟨.high, .high, .high, .high, .low⟩, .opened false] := by decide

/-! ### The frame rows and the table rows (V1, V3, V4) -/

theorem test_swframe : (after (exec (.swframe 0x02 0xC0 0xDE) State.reset)).observed = [.parsed 0x84FC 0x02] := by decide
theorem test_ledframe :
    (after (exec (.ledframe 0x56 0x00 0xD3B7) State.reset)).observed =
      [.packed 0x5600D3B7 [0xB7, 0xD3, 0x00, 0x56]] := by decide
theorem test_ledframe3 :
    (after (exec (.ledframe3 0x3E 0x0100) State.reset)).observed = [.packed3 0x3E0100 [0x00, 0x01, 0x3E]] := by decide
theorem test_rev4_1 : (after (exec .rev4_1 State.reset)).observed = [.nibble 1 8] := by decide
theorem test_rev4_D : (after (exec .rev4_D State.reset)).observed = [.nibble 0xD 0xB] := by decide

/-! ### Refused starts (V9) -/

theorem test_start_ignored_in_WR2 : (after (exec .rdsw inWrite)).trace = [] ∧ (after (exec .rdsw inWrite)).ph = .wr2 := by
  decide
theorem test_init_ignored_in_halt :
    (after (exec .init halted)).fault = true ∧ (after (exec .init halted)).lines = Lines.undriven := by decide
theorem test_rst_leaves_halt :
    (after (step (facing .rst halted))).ph = .idle ∧ (after (step (facing .rst halted))).fault = false := by decide

/-! ### The bit level (V5) -/

theorem test_wireBits_msb_first :
    wireBits .msbFirst 0x34 = [false, false, true, true, false, true, false, false] := by decide
/-- After three bits of 0x34 the deserialiser holds 001 and the bit counter 3. -/
theorem test_three_bits :
    (rxBits [false, false, true] (inRead 0 0)).rx.shift = 0b001 ∧ (rxBits [false, false, true] (inRead 0 0)).rx.bitc = 3 ∧
      (rxBits [false, false, true] (inRead 0 0)).rx.bytec = 0 := by decide
/-- 25 bits: three whole bytes and a partial fourth. -/
theorem test_partial_fourth_byte_faults : (rxEnd (inRead 3 1)).ph = .halt := by decide
/-- 32 bits: the fourth byte is counted and not stored. -/
theorem test_fourth_byte_is_counted :
    (rxByte 0x77 (inRead 3 0)).rx.bytec = 4 ∧ (rxEnd (inRead 4 0)).log = [.linkFault .linkRd 4] := by decide
theorem test_first_bit_out :
    (txBit inWrite).trace = [.txBit false] ∧ (txBit inWrite).tx.shift = 0xF0 ∧ (txBit inWrite).tx.bitc = 1 := by decide
/-- The `Write` of R129's example, and of the same write ended after one byte. -/
theorem test_finer_write_leaves_its_write :
    (txByteTimes 4 inWrite).trace.getLast? = some (.write [0x78, 0x56, 0x34, 0x12] 4) ∧
      (txEnd (txByte inWrite)).trace = [.txByte 0x78, .txEnd, .write [0x78, 0x56, 0x34, 0x12] 1] := by decide

/-! ### The poll (V10) -/

theorem test_poll_fires_on_a_change :
    (after (step (facing .poll (ready [⟨3, 0xFE, 0xFF, 0x05⟩] [])))).dispatcher = ⟨0x05, 0x8000, [0x05]⟩ := by decide
theorem test_poll_silent_without_a_change :
    (after (step (facing .poll (ready [⟨3, 0xFF, 0xFF, 0x00⟩] [])))).dispatcher = ⟨0x00, 0x0000, []⟩ := by decide

/-! ### Witnesses: for every obligation with hypotheses, a state and operands that meet them all -/

theorem test_witness_EncodeOfDecodedFrameIsTheFrame :
    decode ⟨.frame24, [0x34, 0x12, 0x56]⟩ = .ok (.swframe 0x56 0x12 0x34) ∧ Format.frame24 ≠ .cmd2 := by decide
theorem test_witness_StepRunsTheDecodedRequest :
    (facing (.start ⟨.cmd2, [0b10, 0, 0, 0, 0]⟩) State.reset).events = [.start ⟨.cmd2, [0b10, 0, 0, 0, 0]⟩] ∧
      decode ⟨.cmd2, [0b10, 0, 0, 0, 0]⟩ = .ok .rdsw := by decide
theorem test_witness_StepRefusesAMalformedRequest :
    (facing (.start ⟨.cmd2, [0b10]⟩) State.reset).events = [.start ⟨.cmd2, [0b10]⟩] ∧
      decode ⟨.cmd2, [0b10]⟩ = .error .wrongLength ∧ decode ⟨.cmd2, [4, 0, 0, 0, 0]⟩ = .error .paddingNotZero ∧
      decode ⟨.lut4, [16]⟩ = .error .paddingNotZero := by decide
theorem test_witness_StepRunsAPlacedTableWord :
    decodeTableWord 2 3 = some (.wrled 0 0 0) ∧ decodeTableWord 4 15 = some .rev4_F ∧
      decodeTableWord 32 0x12345678 = some (.ledframe 0x12 0x34 0x5678) := by decide
theorem test_witness_IdleAndHaltedBlocksWait :
    (State.reset.events = [] ∧ State.reset.ph = .idle) ∧ halted.events = [] ∧ halted.ph = .halt := by decide
theorem test_witness_StepAppliesTheOtherEvents :
    (facing .poll State.reset).events = [.poll] ∧ (facing .tick State.reset).events = [.tick] ∧
      (facing .rst halted).events = [.rst] ∧ (facing (.rxByte 0) (inRead 0 0)).events = [.rxByte 0] ∧
      (facing (.rxBit true) (inRead 0 0)).events = [.rxBit true] ∧ (facing .rxEnd (inRead 3 0)).events = [.rxEnd] ∧
      (facing .txByte inWrite).events = [.txByte] ∧ (facing .txBit inWrite).events = [.txBit] ∧
      (facing .txEnd inWrite).events = [.txEnd] ∧
      (facing (.startFine .rdsw 0 0 0) State.reset).events = [.startFine .rdsw 0 0 0] ∧ State.reset.events = [] := by
  decide
theorem test_witness_LinkAnswersAreTakenInOrder :
    (fresh [true, false] []).link.opens = true :: [false] ∧
      (ready [⟨-1, 1, 2, 3⟩] [5]).linkOpen = true ∧ (ready [⟨-1, 1, 2, 3⟩] [5]).link.reads = ⟨-1, 1, 2, 3⟩ :: [] ∧
      (ready [⟨-1, 1, 2, 3⟩] [5]).link.writes = 5 :: [] ∧ State.reset.linkOpen = false := by decide
/-- Counts at the edges of what is delivered: below 0, 0, 3, 4. -/
theorem test_witness_deliveredBytes :
    deliveredBytes ⟨-1, 1, 2, 3⟩ = [] ∧ deliveredBytes ⟨0, 1, 2, 3⟩ = [] ∧ deliveredBytes ⟨3, 1, 2, 3⟩ = [1, 2, 3] ∧
      deliveredBytes ⟨4, 1, 2, 3⟩ = [1, 2, 3] := by decide
theorem test_witness_NopCompletesAndChangesNothing : State.reset.ph = .idle := by decide
theorem test_witness_RdswCommitsAThreeByteFrame :
    (ready [⟨3, 1, 2, 3⟩] []).ph = .idle ∧ (ready [⟨3, 1, 2, 3⟩] []).linkOpen = true ∧
      nextRead (ready [⟨3, 1, 2, 3⟩] []) = ⟨3, 1, 2, 3⟩ := by decide
theorem test_witness_RdswFaultsOnEveryOtherCount :
    (ready [⟨2, 1, 2, 3⟩] []).ph = .idle ∧ (readAnswer (ready [⟨2, 1, 2, 3⟩] [])).cnt ≠ 3 ∧
      (readAnswer (ready [⟨4, 1, 2, 3⟩] [])).cnt ≠ 3 ∧ (readAnswer (ready [⟨-1, 1, 2, 3⟩] [])).cnt ≠ 3 ∧
      (readAnswer State.reset).cnt ≠ 3 := by decide
theorem test_witness_RdswWithoutDeviceFaultsWithCountZero :
    State.reset.ph = .idle ∧ State.reset.linkOpen = false := by decide
/-- Both results of a write, at the counts next to the frame's. -/
theorem test_witness_WrledSendsThePackedFrame :
    (ready [] [4]).ph = .idle ∧ writeAnswer (ready [] [4]) = 4 ∧ writeAnswer (ready [] [3]) = 3 ∧
      writeAnswer (ready [] [5]) = 5 ∧ writeAnswer State.reset = 0 := by decide
theorem test_witness_InitSucceedsWhenTheDeviceOpens :
    (fresh [true] [4, 2]).ph = .idle ∧ openAnswer Config.serialCfg (fresh [true] [4, 2]) = true ∧
      (fresh [true] [4, 2]).link.writes = 4 :: 2 :: [] := ⟨rfl, rfl, rfl⟩
theorem test_witness_InitFailsWhenTheDeviceDoesNotOpen :
    (fresh [false] []).ph = .idle ∧ openAnswer Config.serialCfg (fresh [false] []) = false := ⟨rfl, rfl⟩
/-- Two states that differ in what INIT is to overwrite, for a device that opens and for one that does not. -/
theorem test_witness_InitDoesNotDependOnTheStateItFinds :
    let s := fresh [true] [4, 4]
    let s' := { fresh [true] [4, 4] with linkOpen := true, wrShort := true, tx := ⟨1, 2, 3, 4, 5⟩, frameValid := true }
    s.ph = .idle ∧ s'.ph = .idle ∧ s.params = s'.params ∧ s.link = s'.link ∧ s.draws = s'.draws ∧
      (∃ t, exec .init s = .next t ∧ t.linkOpen = true) ∧ (∃ t, exec .init s' = .next t) :=
  ⟨rfl, rfl, rfl, rfl, rfl, ⟨_, rfl, rfl⟩, ⟨_, rfl⟩⟩
theorem test_witness_InitDoesNotDependOnTheStateItFinds_failing :
    let s := fresh [false] []
    let s' := { fresh [false] [] with linkOpen := true, wrShort := true, tx := ⟨1, 2, 3, 4, 5⟩, frameValid := true }
    s.ph = .idle ∧ s'.ph = .idle ∧ s.params = s'.params ∧ s.link = s'.link ∧ s.draws = s'.draws ∧
      (∃ t, exec .init s = .next t ∧ t.linkOpen = false) ∧ (∃ t, exec .init s' = .next t) :=
  ⟨rfl, rfl, rfl, rfl, rfl, ⟨_, rfl, rfl⟩, ⟨_, rfl⟩⟩
theorem test_witness_StartOutsideIdleIsIgnored : halted.ph ≠ .idle ∧ inWrite.ph ≠ .idle := by decide
theorem test_witness_ResetEventLeavesAnyState : (facing .rst halted).events = .rst :: [] := by decide
theorem test_witness_inv_in_RD4 : Inv (inRead 2 7) := by constructor <;> decide
theorem test_witness_inv_in_WR2 : Inv inWrite := by constructor <;> decide
theorem test_witness_EveryStepKeepsTheInvariant :
    Inv (facing (.rxByte 0x56) (inRead 2 0)) ∧ ∃ t, step (facing (.rxByte 0x56) (inRead 2 0)) = .next t :=
  ⟨by constructor <;> decide, ⟨_, rfl⟩⟩
theorem test_witness_HaltIsLeftByResetOnly :
    let s := facing (.start ⟨.cmd2, [0b01, 0, 0, 0, 0]⟩) halted
    s.ph = .halt ∧ headEvent s ≠ .rst ∧ ∃ t, step s = .next t := ⟨rfl, by decide, ⟨_, rfl⟩⟩
theorem test_witness_TraceAndLogAreAppendOnly :
    headEvent (facing .rxEnd (inRead 3 1)) ≠ .rst ∧ ∃ t, step (facing .rxEnd (inRead 3 1)) = .next t :=
  ⟨by decide, ⟨_, rfl⟩⟩
/-- Both clauses: a step that commits, and one that does not. -/
theorem test_witness_SwitchResultChangesOnlyByACommit :
    let s := { inRead 3 0 with ph := .rd5 }
    headEvent s ≠ .rst ∧ (∃ t, step s = .next t ∧ t.frameValid = true ∧ s.frameValid = false) ∧
      headEvent State.reset ≠ .rst ∧ ∃ t, step State.reset = .next t :=
  ⟨by decide, ⟨_, rfl, rfl, rfl⟩, by decide, ⟨_, rfl⟩⟩
theorem test_witness_OnlyRdswRaisesTheLinkFault :
    Instr.init ≠ .rdsw ∧ ∃ t, exec .init (fresh [false] []) = .next t := ⟨by decide, ⟨_, rfl⟩⟩
theorem test_witness_OnlyInitDrivesLedMrAndLedOe :
    Instr.rdsw ≠ .init ∧ (∃ t, exec .rdsw (ready [⟨2, 0, 0, 0⟩] []) = .next t ∧ t.fault = true) ∧
      ∃ t, exec .rdsw (ready [⟨3, 0, 0, 0⟩] []) = .next t ∧ t.fault = false :=
  ⟨by decide, ⟨_, rfl, rfl⟩, ⟨_, rfl, rfl⟩⟩
theorem test_witness_ParametersAreConstant : ∃ t, step State.reset = .next t := ⟨_, rfl⟩
theorem test_witness_OperationsKeepTheMachineReady :
    (AtRest (fresh [true] [4, 4]) ∧ openAnswer Config.serialCfg (fresh [true] [4, 4]) = true) ∧
      Ready (ready [⟨3, 0, 0, 0⟩] [0]) ∧ (∃ t, exec .nop (ready [] []) = .next t) ∧ (nextRead (ready [⟨3, 0, 0, 0⟩] [])).cnt = 3 ∧ Ready (ready [⟨4, 0, 0, 0⟩] []) ∧
      (nextRead (ready [⟨4, 0, 0, 0⟩] [])).cnt ≠ 3 := by
  refine ⟨⟨⟨rfl, rfl⟩, rfl⟩, ?_, ⟨_, rfl⟩, ?_, ?_, ?_⟩ <;> decide
theorem test_witness_BigStepIsTheCompositionOfItsPhases : (ready [⟨3, 1, 2, 3⟩] [4]).ph = .idle := by decide
theorem test_witness_ByteLevelParserCountsAndStores :
    (inRead 0 0).ph = .rd4 ∧ (inRead 0 0).linkOpen = true ∧ (inRead 0 0).rx.bytec = 0 := by decide
theorem test_witness_EightRxBitsAreOneRxByte :
    (inRead 4 0).ph = .rd4 ∧ (inRead 4 0).linkOpen = true ∧ (inRead 4 0).rx.bitc = 0 := by decide
/-- Both clauses at their edges: three whole bytes; two bytes and seven bits; three bytes and one bit; four bytes. -/
theorem test_witness_RxEndAcceptsExactlyThreeWholeBytes :
    (inRead 3 0).ph = .rd4 ∧ ((inRead 3 0).rx.bytec = 3 ∧ (inRead 3 0).rx.bitc = 0) ∧
      ¬((inRead 2 7).rx.bytec = 3 ∧ (inRead 2 7).rx.bitc = 0) ∧ ¬((inRead 3 1).rx.bytec = 3 ∧ (inRead 3 1).rx.bitc = 0) ∧
      ¬((inRead 4 0).rx.bytec = 3 ∧ (inRead 4 0).rx.bitc = 0) := by decide
theorem test_witness_BitLevelReadRefinesTheBigStep :
    (ready [⟨3, 0x34, 0x12, 0x56⟩] []).ph = .idle ∧ (ready [⟨3, 0x34, 0x12, 0x56⟩] []).linkOpen = true ∧
      (ready [⟨3, 0x34, 0x12, 0x56⟩] []).link.reads = ⟨3, 0x34, 0x12, 0x56⟩ :: [] ∧
      ∃ u, exec .rdsw (ready [⟨3, 0x34, 0x12, 0x56⟩] []) = .next u := ⟨rfl, rfl, rfl, ⟨_, rfl⟩⟩
theorem test_witness_ByteLevelWriteSendsTheWholeFrame :
    afterWrite inWrite.ph = some .wr3 ∧ inWrite.linkOpen = true ∧ inWrite.tx.bytec = 0 := by decide
theorem test_witness_EightTxBitsAreOneTxByte : offeredByte inWrite = some 0x78 ∧ inWrite.tx.bitc = 0 := by decide
theorem test_witness_TxEndGivesTheWholeBytesTaken :
    afterWrite inWrite.ph = some .wr3 ∧ afterWrite .in4 = some .in5 ∧ afterWrite .in8 = some .in9 ∧ Inv inWrite :=
  ⟨by decide, by decide, by decide, test_witness_inv_in_WR2⟩
/-- The invariant's clause at its edge: one byte of the frame left. -/
theorem test_witness_TxEnd_one_byte_left :
    Inv { inWrite with tx := { inWrite.tx with bytec := 3 } } := by constructor <;> decide
/-- A write ended with the device not open is short, of count 0. -/
theorem test_txEnd_with_the_device_not_open :
    let t := tick (txEnd { inWrite with linkOpen := false })
    t.wrShort = true ∧ t.log = [.shortWrite 0] ∧ t.ph = .idle := by decide
theorem test_witness_FinerLevelsOfAFullWriteRefineTheBigStep :
    (ready [] [4]).ph = .idle ∧ (ready [] [4]).linkOpen = true ∧
      (ready [] [4]).link.writes = ((ready [] [4]).params.ledFrameBytes.count : Int) :: [] ∧
      ∃ u, exec (.wrled 1 2 3) (ready [] [4]) = .next u := ⟨rfl, rfl, rfl, ⟨_, rfl⟩⟩
/-- Both clauses, the first at both ends of its range: no byte, and one byte less than the frame; and the device not open. -/
theorem test_witness_FinerLevelsOfAShortWriteRefineTheBigStep :
    (ready [] [0]).ph = .idle ∧ (ready [] [0]).linkOpen = true ∧ 3 < (ready [] [3]).params.ledFrameBytes.count ∧
      (ready [] [0]).link.writes = ((0 : Nat) : Int) :: [] ∧ (ready [] [3]).link.writes = ((3 : Nat) : Int) :: [] ∧
      (fresh [] []).ph = .idle ∧ (fresh [] []).linkOpen = false ∧ (∃ u, exec (.wrled 1 2 3) (ready [] [0]) = .next u) ∧
      ∃ u, exec (.wrled 1 2 3) (fresh [] []) = .next u :=
  ⟨rfl, rfl, by decide, rfl, rfl, rfl, rfl, ⟨_, rfl⟩, ⟨_, rfl⟩⟩
theorem test_witness_EncodeOfDecodedWrledIsTheRequest :
    decode ⟨.cmd2, [0b11, 0xA2, 0x3E, 0x00, 0x01]⟩ = .ok (.wrled 0xA2 0x3E 0x0100) := by decide
/-- Both clauses: a read of count 3, with the command changed and unchanged, and a faulting read. -/
theorem test_witness_PollFiresOnAChangeOfCommand :
    let s := facing .poll (ready [⟨3, 1, 2, 3⟩] [])
    s.events = .poll :: [] ∧ s.ph = .idle ∧ s.linkOpen = true ∧ nextRead s = ⟨3, 1, 2, 3⟩ ∧
      s.dispatcher.lastCommand ≠ 3 ∧ nextRead (ready [⟨3, 1, 2, 0⟩] []) = ⟨3, 1, 2, State.reset.dispatcher.lastCommand⟩ ∧
      (readAnswer (facing .poll (ready [⟨2, 1, 2, 3⟩] []))).cnt ≠ 3 := by decide
theorem test_witness_ResultPortsHaveAValueOnlyWhenValid :
    State.reset.frameValid = false ∧ (after (exec .rdsw (ready [⟨3, 0, 0, 0⟩] []))).frameValid = true := by decide

/-- A machine right after reset, one INIT to come and a device that opens. -/
def oneInit : State := withProgram [.op .init] [.opened true, .write 4, .write 2] State.reset

theorem test_witness_EveryOperationIsAnsweredOnce :
    disciplined oneInit = true ∧ headEvent oneInit ≠ .rst ∧ (∃ t, step oneInit = .next t) ∧
      eventOp (headEvent oneInit) = some .init := ⟨by decide, by decide, ⟨_, rfl⟩, by decide⟩
theorem test_witness_run : Run oneInit (after (step oneInit)) [.init] :=
  .next (ops := []) (.start rfl) (by decide) (by decide) rfl
/-- The first clause's run ends well: INIT has produced its `Done` and nothing is left to issue. -/
theorem test_witness_run_ends_well : EndsWell oneInit (after (step oneInit)) [.init] :=
  ⟨test_witness_run, by decide, by decide, by decide, by decide⟩
/-- A machine right after reset, one RDSW to come (P4: the device is not open). -/
theorem test_witness_run_ends_badly :
    let s0 := withProgram [.op .rdsw] [] State.reset
    Run s0 (after (step s0)) [.rdsw] ∧ EndsBadly (after (step s0)) :=
  ⟨.next (ops := []) (.start rfl) (by decide) (by decide) rfl, by decide⟩
/-- At reset, with an operation still to come, nothing has ended. -/
theorem test_reset_does_not_end_well : ¬EndsWell oneInit oneInit [.init] := fun h => by
  have := h.all_done
  revert this
  decide
theorem test_witness_RunOfOneOperationAfterReset :
    applyReset oneInit = oneInit ∧ oneInit.events = [.start (encode .init)] ∧ instrOp .init = some .init ∧
      instrOp .rdsw = some .rdsw := ⟨rfl, rfl, rfl, rfl⟩

end Sys2Proof.Machine.Tests
end

section
/-! The encoding family: what the decoder reads from the encoder's containers, everything a request can decode to, and the
frames as rows of the opcode table. -/

namespace Sys2Proof.Machine

/-! ### The decoder on the encoder's containers -/

/-- The four codes are read back (30_encoding.md R66). -/
@[simp] theorem ofBits_bits (op : OpCode) : OpCode.ofBits op.bits = op := by
  cases op <;> rfl

/-- The decoder reads a `Start` back as the operation with its operands (R66, log entry 11). -/
theorem decode_cmd2Request (op : OpCode) (st d : Byte) (b : Word16) :
    decode (cmd2Request op st d b) = .ok (op.instr st d b) := by
  have hwidth : (op.bits.setWidth 8).toNat < 4 := by cases op <;> decide
  have hcode : (op.bits.setWidth 8).setWidth 2 = op.bits := BitVec.setWidth_setWidth_of_le _ (by decide)
  simp only [cmd2Request, decode, decodeCmd2, if_pos hwidth, hcode, ofBits_bits, hiByte_append_loByte]

/-- The decoder reads a table index back as its row (40_transform.md R80, log entry 11). -/
theorem decode_lut4Request (x : Nibble) : decode (lut4Request x) = .ok (lutInstr x) := by
  have hwidth : (x.setWidth 8).toNat < 16 := by
    rw [BitVec.toNat_setWidth_of_le (by decide)]
    exact x.isLt
  have hindex : (x.setWidth 8).setWidth 4 = x := BitVec.setWidth_setWidth_of_le _ (by decide)
  simp only [lut4Request, decode, decodeLut4, if_pos hwidth, hindex]

/-- Each table row is encoded as the index it stands for. -/
theorem encode_lutInstr (x : Nibble) : encode (lutInstr x) = lut4Request x := by
  revert x
  decide

theorem decode_frame24 (c h l : Byte) : decode ⟨.frame24, [l, h, c]⟩ = .ok (.swframe c h l) := rfl

theorem decode_frame32 (st d bh bl : Byte) : decode ⟨.frame32, [bl, bh, d, st]⟩ = .ok (.ledframe st d (bh ++ bl)) := rfl

theorem decode_frame24led (d bh bl : Byte) : decode ⟨.frame24led, [bl, bh, d]⟩ = .ok (.ledframe3 d (bh ++ bl)) := rfl

/-! ### Everything a request can decode to -/

/-- The requests that decode, one constructor per format, each with the instruction it stands for (30_encoding.md R60, R64,
R65, R66; 40_transform.md R80). -/
inductive DecodesTo : Request → Instr → Prop
  | start (op st d bl bh : Byte) : op.toNat < 4 →
      DecodesTo ⟨.cmd2, [op, st, d, bl, bh]⟩ ((OpCode.ofBits (op.setWidth 2)).instr st d (bh ++ bl))
  | index (x : Byte) : x.toNat < 16 → DecodesTo ⟨.lut4, [x]⟩ (lutInstr (x.setWidth 4))
  | switchFrame (c h l : Byte) : DecodesTo ⟨.frame24, [l, h, c]⟩ (.swframe c h l)
  | ledFrame (st d bh bl : Byte) : DecodesTo ⟨.frame32, [bl, bh, d, st]⟩ (.ledframe st d (bh ++ bl))
  | ledFrame3 (d bh bl : Byte) : DecodesTo ⟨.frame24led, [bl, bh, d]⟩ (.ledframe3 d (bh ++ bl))

/-- `DecodesTo` is the decoder's acceptance, so a proof about a decoded request splits along its constructors. -/
theorem decode_eq_ok_iff {r : Request} {i : Instr} : decode r = .ok i ↔ DecodesTo r i := by
  constructor
  · intro h
    obtain ⟨fmt, bytes⟩ := r
    simp only [decode] at h
    split at h
    case h_1 op st d bl bh =>
      simp only [decodeCmd2] at h
      split at h
      · next hop => cases h; exact .start op st d bl bh hop
      · cases h
    case h_2 x =>
      simp only [decodeLut4] at h
      split at h
      · next hx => cases h; exact .index x hx
      · cases h
    case h_3 l h c => cases h; exact .switchFrame c h l
    case h_4 bl bh d st => cases h; exact .ledFrame st d bh bl
    case h_5 bl bh d => cases h; exact .ledFrame3 d bh bl
    case h_6 => cases h
  · rintro (⟨op, st, d, bl, bh, hop⟩ | ⟨x, hx⟩ | _ | _ | _)
    · simp only [decode, decodeCmd2, if_pos hop]
    · simp only [decode, decodeLut4, if_pos hx]
    all_goals rfl

/-- The one-byte container of an index loses nothing where its padding is 0 (log entry 11). -/
theorem lut4Request_setWidth {x : Byte} (hx : x.toNat < 16) : lut4Request (x.setWidth 4) = ⟨.lut4, [x]⟩ := by
  have hbyte : (x.setWidth 4).setWidth 8 = x := BitVec.setWidth_setWidth_eq_self (BitVec.lt_def.2 hx)
  rw [lut4Request, hbyte]

/-! ### The LED word of three bytes -/

/-- The 24-bit LED word is data over bus (30_encoding.md R65). -/
theorem pack24_eq_append (d : Byte) (b : Word16) : pack24 d b = d ++ b := by
  have hdata : ((0 : Byte) ++ d).setWidth 8 = d := BitVec.setWidth_append_eq_right
  calc pack24 d b = ((0 : Byte) ++ d ++ b).setWidth (8 + 16) := by rw [pack24, pack32_eq_append]
    _ = ((0 : Byte) ++ d).setWidth 8 ++ b.setWidth 16 := BitVec.setWidth_append_of_eq rfl
    _ = d ++ b := by rw [hdata, BitVec.setWidth_eq]

/-- The wire bytes of the 24-bit LED word, the low byte first (40_transform.md R92). -/
theorem ser24led_pack24 (d : Byte) (b : Word16) : ser24led (pack24 d b) = [loByte b, hiByte b, d] := by
  have hlo : (d ++ b).extractLsb' 0 8 = loByte b := BitVec.extractLsb'_append_eq_of_add_le (by decide)
  have hhi : (d ++ b).extractLsb' 8 8 = hiByte b := BitVec.extractLsb'_append_eq_of_add_le (by decide)
  have hdata : (d ++ b).extractLsb' 16 8 = d := BitVec.extractLsb'_append_eq_left
  rw [ser24led, pack24_eq_append, hlo, hhi, hdata]

/-- The wire bytes of the 32-bit LED word, the low byte first (R91). -/
theorem ser32_pack32 (st d : Byte) (b : Word16) : ser32 (pack32 st d b) = [loByte b, hiByte b, d, st] := by
  rw [ser32, ledByte_pack32_zero, ledByte_pack32_one, ledByte_pack32_two, ledByte_pack32_three]

/-! ### The obligations -/

/-- Settles O1: each row is a container the decoder reads back, or a frame whose bus bytes join again. -/
theorem decodeOfEncodeIsTheInstruction : Obligations.DecodeOfEncodeIsTheInstruction := by
  intro i
  cases i with
  | nop => exact decode_cmd2Request .nop 0 0 0
  | init => exact decode_cmd2Request .init 0 0 0
  | rdsw => exact decode_cmd2Request .rdsw 0 0 0
  | wrled st d b => exact decode_cmd2Request .wrled st d b
  | swframe c h l => exact decode_frame24 c h l
  | ledframe st d b => rw [encode, decode_frame32, hiByte_append_loByte]
  | ledframe3 d b => rw [encode, decode_frame24led, hiByte_append_loByte]
  | rev4_0 => exact decode_lut4Request 0x0
  | rev4_1 => exact decode_lut4Request 0x1
  | rev4_2 => exact decode_lut4Request 0x2
  | rev4_3 => exact decode_lut4Request 0x3
  | rev4_4 => exact decode_lut4Request 0x4
  | rev4_5 => exact decode_lut4Request 0x5
  | rev4_6 => exact decode_lut4Request 0x6
  | rev4_7 => exact decode_lut4Request 0x7
  | rev4_8 => exact decode_lut4Request 0x8
  | rev4_9 => exact decode_lut4Request 0x9
  | rev4_A => exact decode_lut4Request 0xA
  | rev4_B => exact decode_lut4Request 0xB
  | rev4_C => exact decode_lut4Request 0xC
  | rev4_D => exact decode_lut4Request 0xD
  | rev4_E => exact decode_lut4Request 0xE
  | rev4_F => exact decode_lut4Request 0xF

/-- Settles O3, by the formats a decoded request can have. -/
theorem encodeOfDecodedFrameIsTheFrame : Obligations.EncodeOfDecodedFrameIsTheFrame := by
  intro r i hdec hfmt
  cases decode_eq_ok_iff.1 hdec with
  | start => exact absurd rfl hfmt
  | index x hx => rw [encode_lutInstr, lut4Request_setWidth hx]
  | switchFrame c h l => rfl
  | ledFrame st d bh bl => rw [encode, loByte_append, hiByte_append]
  | ledFrame3 d bh bl => rw [encode, loByte_append, hiByte_append]

/-- Settles O17: the split fields of the assembled word are its wire bytes, so PARSE24 decodes the two low ones. -/
theorem parse24AssemblesSplitsAndDecodes : Obligations.Parse24AssemblesSplitsAndDecodes := by
  refine ⟨fun b0 b1 b2 => ⟨rfl, asm24_eq_append b0 b1 b2, rfl, splitCmd_asm24 b0 b1 b2, rfl, splitRaw_asm24 b0 b1 b2,
    parse24_eq b0 b1 b2⟩, ?_, ?_, ?_⟩
  all_goals decide

/-- Settles O5, by running the decoder on the five words. -/
theorem decodeReadsWordsOfEveryFormat : Obligations.DecodeReadsWordsOfEveryFormat := by
  exact ⟨rfl, rfl, rfl, rfl, rfl⟩

/-- Settles O30: the row observes PARSE24 of its bytes in wire order. -/
theorem switchFrameRowIsParsed : Obligations.SwitchFrameRowIsParsed := by
  intro s c h l
  rw [exec, execSwframe, parse24_eq, observe]

/-- Settles O31: each row observes its packed word and that word's wire bytes. -/
theorem ledFrameRowsArePackedAndSerialised : Obligations.LedFrameRowsArePackedAndSerialised := by
  intro s st d b
  constructor
  · rw [exec, execLedframe, ser32_pack32, pack32_eq_append, observe, loByte, hiByte]
  · rw [exec, execLedframe3, ser24led_pack24, pack24_eq_append, observe, loByte, hiByte]

end Sys2Proof.Machine
end

section
/-! The transform family: the reversal of one nibble, the nibbles of the permuted and of the complemented word, the fields of
the LED word, and the table rows as lookups. -/

namespace Sys2Proof.Machine

/-! ### REV4 -/

/-- REV4 puts bit `3 - j` at bit `j` (40_transform.md R81). -/
theorem getLsbD_rev4 (x : Nibble) (j : Fin 4) : (rev4 x).getLsbD j.val = x.getLsbD (3 - j.val) := by
  revert x j
  decide

/-- Reversing twice puts every bit back (R81). -/
theorem rev4_rev4 (x : Nibble) : rev4 (rev4 x) = x := by
  apply BitVec.eq_of_getLsbD_eq
  intro j hj
  have hback : 3 - (3 - j) = j := by omega
  rw [getLsbD_rev4 (rev4 x) ⟨j, hj⟩, getLsbD_rev4 x ⟨3 - j, by omega⟩, hback]

/-- The fixed points of REV4 are the four bit-palindromes (R81). -/
theorem rev4_eq_self_iff (x : Nibble) : rev4 x = x ↔ x = 0x0 ∨ x = 0x6 ∨ x = 0x9 ∨ x = 0xF := by
  revert x
  decide

/-- The table commutes with the complement of the nibble (R86). -/
theorem rev4_not (x : Nibble) : rev4 (~~~x) = ~~~rev4 x := by
  revert x
  decide

/-- A table row observes the pair of an index and its entry and changes nothing else (R80, R88). -/
theorem lookup_of_entry {x y : Nibble} (h : rev4 x = y) (s : State) :
    lookup x s = { s with observed := s.observed ++ [.nibble x y] } := by
  rw [lookup, h, observe]

/-! ### The nibbles of a 16-bit word -/

/-- The nibbles of four concatenated nibbles, the last written lowest (30_encoding.md R63). -/
theorem nibble_append (a b c d : Nibble) :
    nibble (a ++ b ++ c ++ d) 3 = a ∧ nibble (a ++ b ++ c ++ d) 2 = b ∧ nibble (a ++ b ++ c ++ d) 1 = c ∧
      nibble (a ++ b ++ c ++ d) 0 = d := by
  simp only [nibble]
  refine ⟨?_, ?_, ?_, BitVec.extractLsb'_append_eq_right⟩
  · rw [BitVec.extractLsb'_append_eq_of_le (by decide), BitVec.extractLsb'_append_eq_of_le (by decide)]
    exact BitVec.extractLsb'_append_eq_left
  · rw [BitVec.extractLsb'_append_eq_of_le (by decide), BitVec.extractLsb'_append_eq_of_le (by decide)]
    exact BitVec.extractLsb'_append_eq_right
  · rw [BitVec.extractLsb'_append_eq_of_le (by decide)]
    exact BitVec.extractLsb'_append_eq_right

/-- Complementing a word complements each of its nibbles (40_transform.md R85). -/
theorem nibble_inv16 (r : Word16) {k : Nat} (hk : k < 4) : nibble (inv16 r) k = ~~~nibble r k := by
  apply BitVec.eq_of_getLsbD_eq
  intro j hj
  have hbit : 4 * k + j < 16 := by omega
  simp [nibble, inv16, hj, hbit]

/-- Complementing first and permuting second gives the same value (R86): nibble by nibble, by `rev4_not`. -/
theorem perm16_inv16 (r : Word16) : perm16 (inv16 r) = inv16 (perm16 r) := by
  have hnibble : ∀ k < 4, rev4 (nibble (inv16 r) k) = ~~~rev4 (nibble r k) := fun k hk => by
    rw [nibble_inv16 r hk, rev4_not]
  rw [perm16_eq_append, perm16_eq_append, hnibble 0 (by decide), hnibble 1 (by decide), hnibble 2 (by decide),
    hnibble 3 (by decide), inv16, BitVec.not_append, BitVec.not_append, BitVec.not_append]

theorem getLsbD_inv16 (p : Word16) (i : Fin 16) : (inv16 p).getLsbD i.val = !(p.getLsbD i.val) := by
  simp [inv16]

/-! ### The LED word -/

/-- The low half of the LED word is `bus` (R90). -/
theorem extractLsb'_pack32_bus (st d : Byte) (b : Word16) : (pack32 st d b).extractLsb' 0 16 = b := by
  rw [pack32_eq_append]
  exact BitVec.extractLsb'_append_eq_right

/-! ### The obligations -/

/-- Settles O13: the placed nibbles are a concatenation, so each field of it is one of them. -/
theorem perm16PlacesReversedNibbles : Obligations.Perm16PlacesReversedNibbles := by
  refine ⟨fun r => ?_, ?_, ?_, ?_, ?_⟩
  · obtain ⟨h3, h2, h1, h0⟩ :=
      nibble_append (rev4 (nibble r 0)) (rev4 (nibble r 1)) (rev4 (nibble r 2)) (rev4 (nibble r 3))
    rw [← perm16_eq_append] at h3 h2 h1 h0
    exact ⟨rfl, perm16_eq_append r, h3, h2, h1, h0⟩
  all_goals decide

/-- Settles O16: the two orders agree by `perm16_inv16`. -/
theorem decode16ComplementsThePermutedWord : Obligations.Decode16ComplementsThePermutedWord := by
  refine ⟨getLsbD_inv16, fun r => ⟨rfl, perm16_inv16 r⟩, ?_, ?_, ?_, ?_, ?_, ?_⟩
  all_goals decide

/-- Settles O18: the three fields are a concatenation, so each is read back from it. -/
theorem pack32PlacesStatusDataBus : Obligations.Pack32PlacesStatusDataBus := by
  refine ⟨fun st d b => ⟨rfl, pack32_eq_append st d b, ledByte_pack32_three st d b, ledByte_pack32_two st d b,
    extractLsb'_pack32_bus st d b⟩, ?_, ?_, ?_⟩
  all_goals decide

/-- Settles O11: the entries are the table's own, the rest is what REV4 does to the bits. -/
theorem rev4IsTheTableAndReversesBits : Obligations.Rev4IsTheTableAndReversesBits := by
  exact ⟨rfl, fun _ => rfl, getLsbD_rev4, rev4_eq_self_iff, rev4_rev4, rfl⟩

/-- Settles O32: each row is the lookup of its index. -/
theorem tableRowsGiveTheirEntries : Obligations.TableRowsGiveTheirEntries := by
  intro s
  refine ⟨?_, ?_, ?_, ?_, ?_, ?_, ?_, ?_, ?_, ?_, ?_, ?_, ?_, ?_, ?_, ?_⟩
  all_goals exact congrArg Host.Outcome.next (lookup_of_entry (by decide) s)

end Sys2Proof.Machine
end

section
/-! The result registers: no operation but the commit of a switch read touches them. -/

namespace Sys2Proof.Machine

/-- `sw_addr`, `sw_cmd` and `frame_valid`, which the commit of a switch read writes together (41_switch_read.md R104). -/
def switchResult (s : State) : Word16 × Byte × Bool := (s.swAddr, s.swCmd, s.frameValid)

theorem switchResult_eq_iff {s t : State} :
    switchResult t = switchResult s ↔ t.swAddr = s.swAddr ∧ t.swCmd = s.swCmd ∧ t.frameValid = s.frameValid := by
  simp only [switchResult, Prod.mk.injEq]

/-! ### What keeps the result registers -/

@[simp] theorem switchResult_emit (e : TraceEvent) (s : State) : switchResult (emit e s) = switchResult s := rfl

@[simp] theorem switchResult_setPh (p : Phase) (s : State) : switchResult (setPh p s) = switchResult s := rfl

@[simp] theorem switchResult_driveLine (l : Line) (v : Bool) (s : State) :
    switchResult (driveLine l v s) = switchResult s := rfl

@[simp] theorem switchResult_delayFor (t : Duration) (s : State) : switchResult (delayFor t s) = switchResult s := rfl

@[simp] theorem switchResult_complete (d : Done) (s : State) : switchResult (complete d s) = switchResult s := rfl

@[simp] theorem switchResult_linesReset (s : State) : switchResult (linesReset s) = switchResult s := rfl

@[simp] theorem switchResult_linkOpenDevice (c : SerialCfg) (s : State) :
    switchResult (linkOpenDevice c s) = switchResult s := rfl

@[simp] theorem switchResult_linkRead (s : State) : switchResult (linkRead s) = switchResult s := rfl

@[simp] theorem switchResult_linkWrite (s : State) : switchResult (linkWrite s) = switchResult s := rfl

@[simp] theorem switchResult_storeFrame (a : ReadAnswer) (s : State) : switchResult (storeFrame a s) = switchResult s := rfl

@[simp] theorem switchResult_raiseLinkFault (cnt : Int) (s : State) :
    switchResult (raiseLinkFault cnt s) = switchResult s := rfl

@[simp] theorem switchResult_latchOperands (st d : Byte) (b : Word16) (s : State) :
    switchResult (latchOperands st d b s) = switchResult s := rfl

@[simp] theorem switchResult_strobeLow (s : State) : switchResult (strobeLow s) = switchResult s := rfl

@[simp] theorem switchResult_failInit (s : State) : switchResult (failInit s) = switchResult s := rfl

@[simp] theorem switchResult_succeedInit (s : State) : switchResult (succeedInit s) = switchResult s := rfl

@[simp] theorem switchResult_clearAndResetLines (s : State) : switchResult (clearAndResetLines s) = switchResult s := rfl

@[simp] theorem switchResult_enterReceive (s : State) : switchResult (enterReceive s) = switchResult s := rfl

@[simp] theorem switchResult_strobeHighAndCheck (s : State) : switchResult (strobeHighAndCheck s) = switchResult s := by
  obtain ⟨_, _, hcheck⟩ := checkShort_frame (driveLine .ledStore true s)
  rw [strobeHighAndCheck, hcheck]
  rfl

@[simp] theorem switchResult_writeBody (st d : Byte) (b : Word16) (s : State) :
    switchResult (writeBody st d b s) = switchResult s := by
  simp [writeBody]

@[simp] theorem switchResult_showPatterns (s : State) : switchResult (showPatterns s) = switchResult s := by
  simp [showPatterns, writePattern]

/-- Both ends of INIT keep the result of the last switch read. -/
theorem switchResult_initializeHardware (s : State) : switchResult (initializeHardware s) = switchResult s := by
  simp only [initializeHardware]
  split <;> simp

theorem switchResult_writeStatus (st d : Byte) (b : Word16) (s : State) :
    switchResult (writeStatus st d b s) = switchResult s := by
  simp [writeStatus]

/-- A `Start` that is accepted keeps them if its operation does, and one that is not changes nothing. -/
theorem switchResult_ifAccepted {body : State → State} (hbody : ∀ s, switchResult (body s) = switchResult s) (s : State) :
    switchResult (ifAccepted body s) = switchResult s := by
  rcases eq_or_ne s.ph .idle with h | h
  · rw [ifAccepted_idle body h, hbody]
  · rw [ifAccepted_ignored body h]

theorem switchResult_acceptStart (op : OpCode) (st d : Byte) (b : Word16) (s : State) :
    switchResult (acceptStart op st d b s) = switchResult s := by
  cases op <;> rfl

/-- No row of the opcode table but RDSW touches the result registers. -/
theorem switchResult_exec {i : Instr} {s t : State} (hi : i ≠ .rdsw) (h : exec i s = .next t) :
    switchResult t = switchResult s := by
  cases i
  case rdsw => exact absurd rfl hi
  case init =>
    cases h
    exact switchResult_ifAccepted switchResult_initializeHardware s
  case nop =>
    cases h
    exact switchResult_ifAccepted (switchResult_complete .nop) s
  case wrled st d b =>
    cases h
    exact switchResult_ifAccepted (switchResult_writeStatus st d b) s
  all_goals
    cases h
    rfl

/-! ### The finer levels -/

/-- The read phase takes the answer into `rx_buf`; the commit is the next phase (R107). -/
@[simp] theorem switchResult_readPhase (s : State) : switchResult (readPhase s) = switchResult s := by
  simp only [readPhase, acceptRead]
  split
  · rfl
  · split <;> simp

@[simp] theorem switchResult_writePhase (p : Phase) (s : State) : switchResult (writePhase p s) = switchResult s := by
  simp only [writePhase]
  split <;> simp

@[simp] theorem switchResult_openPhase (s : State) : switchResult (openPhase s) = switchResult s := by
  simp only [openPhase]
  split <;> simp

@[simp] theorem switchResult_patternPhase (p : Pattern) (next : Phase) (s : State) :
    switchResult (patternPhase p next s) = switchResult s := rfl

@[simp] theorem switchResult_finishWrite (s : State) : switchResult (finishWrite s) = switchResult s := by
  simp [finishWrite]

/-- No phase but RD5 touches the result registers. -/
theorem switchResult_tick {s : State} (h : s.ph ≠ .rd5) : switchResult (tick s) = switchResult s := by
  cases hph : s.ph
  case rd5 => exact absurd hph h
  all_goals simp [tick, hph]

theorem switchResult_rxByte (x : Byte) (s : State) : switchResult (rxByte x s) = switchResult s := by
  simp only [rxByte]
  split <;> rfl

theorem switchResult_rxBit (v : Bool) (s : State) : switchResult (rxBit v s) = switchResult s := by
  simp only [rxBit]
  split <;> rfl

theorem switchResult_rxEnd (s : State) : switchResult (rxEnd s) = switchResult s := by
  simp only [rxEnd]
  split
  · split <;> simp
  · rfl

@[simp] theorem switchResult_endWrite (cnt : Int) (s : State) : switchResult (endWrite cnt s) = switchResult s := by
  cases h : afterWrite s.ph with
  | none => rw [endWrite_other cnt h]
  | some p => rw [endWrite_writing cnt h]; rfl

theorem switchResult_byteTaken (s : State) : switchResult (byteTaken s) = switchResult s := by
  rcases eq_or_ne ((countByte s.tx.bytec).val : Int) (ledFrameCount s) with h | h
  · rw [byteTaken_last h, switchResult_endWrite]; rfl
  · rw [byteTaken_more h]; rfl

theorem switchResult_txByte (s : State) : switchResult (txByte s) = switchResult s := by
  simp only [txByte]
  split
  · rw [switchResult_byteTaken]; rfl
  · rfl

theorem switchResult_txBit (s : State) : switchResult (txBit s) = switchResult s := by
  simp only [txBit]
  split
  · split
    · rw [switchResult_byteTaken]; rfl
    · rfl
  · rfl

theorem switchResult_txEnd (s : State) : switchResult (txEnd s) = switchResult s := by
  simp only [txEnd]
  split <;> simp

/-! ### The commit -/

/-- `t` comes from `s` by the commit of a switch read: the registers hold PARSE24 of `rx_buf`, and the same pair is the one new
`Done` (41_switch_read.md R104). -/
def CommitsFrame (s t : State) : Prop :=
  (t.swAddr, t.swCmd) = parsedFrame t ∧ t.frameValid = true ∧ t.results = s.results ++ [.rdsw t.swAddr t.swCmd]

/-- The result registers are as before, or a switch read has committed. -/
def KeptOrCommitted (s t : State) : Prop := switchResult t = switchResult s ∨ CommitsFrame s t

theorem commitsFrame_finishRead (s : State) : CommitsFrame s (finishRead s) := ⟨rfl, rfl, rfl⟩

/-- Of the state before, the commit's description reads the list of results alone. -/
theorem CommitsFrame.of_results_eq {s u t : State} (h : CommitsFrame u t) (hu : u.results = s.results) :
    CommitsFrame s t := by
  rw [CommitsFrame, ← hu]
  exact h

/-- A read of exactly three bytes commits, any other is the link fault, which keeps the registers (R102, R158). -/
theorem keptOrCommitted_readSwitches (s : State) : KeptOrCommitted s (readSwitches s) := by
  simp only [readSwitches]
  rcases eq_or_ne (readAnswer (selectAndLoad s)).cnt 3 with h | h
  · rw [acceptRead_three _ _ h]
    exact .inr ((commitsFrame_finishRead _).of_results_eq rfl)
  · rw [acceptRead_fault _ _ h]
    exact .inl rfl

theorem keptOrCommitted_ifAccepted_readSwitches (s : State) : KeptOrCommitted s (ifAccepted readSwitches s) := by
  rcases eq_or_ne s.ph .idle with h | h
  · rw [ifAccepted_idle _ h]
    exact keptOrCommitted_readSwitches s
  · rw [ifAccepted_ignored _ h]
    exact .inl rfl

/-- The Host's compare after the read is no part of the block (60_exceptions.md R171). -/
theorem keptOrCommitted_poll (s : State) : KeptOrCommitted s (poll s) := by
  simp only [poll]
  split <;> exact keptOrCommitted_ifAccepted_readSwitches s

theorem keptOrCommitted_tick (s : State) : KeptOrCommitted s (tick s) := by
  rcases eq_or_ne s.ph .rd5 with h | h
  · have hcommit : tick s = finishRead s := by simp only [tick, h]
    rw [hcommit]
    exact .inr (commitsFrame_finishRead s)
  · exact .inl (switchResult_tick h)

theorem keptOrCommitted_exec {i : Instr} {s t : State} (h : exec i s = .next t) : KeptOrCommitted s t := by
  rcases eq_or_ne i .rdsw with rfl | hi
  · cases h
    exact keptOrCommitted_ifAccepted_readSwitches s
  · exact .inl (switchResult_exec hi h)

/-- Every event but a reset keeps the result registers or is the commit (10_state.md R28). -/
theorem keptOrCommitted_applyEvent {e : Event} {s t : State} (he : e ≠ .rst) (h : applyEvent e s = .inr t) :
    KeptOrCommitted s t := by
  cases e with
  | start r => cases h
  | startFine op st d b => cases h; exact .inl (switchResult_ifAccepted (switchResult_acceptStart op st d b) s)
  | tick => cases h; exact keptOrCommitted_tick s
  | rxByte x => cases h; exact .inl (switchResult_rxByte x s)
  | rxBit v => cases h; exact .inl (switchResult_rxBit v s)
  | rxEnd => cases h; exact .inl (switchResult_rxEnd s)
  | txByte => cases h; exact .inl (switchResult_txByte s)
  | txBit => cases h; exact .inl (switchResult_txBit s)
  | txEnd => cases h; exact .inl (switchResult_txEnd s)
  | poll => cases h; exact keptOrCommitted_poll s
  | rst => exact absurd rfl he

/-- Taking an event changes the list of events alone (log entry 13). -/
theorem nextEvent_frame (s : State) : ∃ rest, (nextEvent s).2 = { s with events := rest } := by
  simp only [nextEvent]
  split <;> exact ⟨_, rfl⟩

theorem keptOrCommitted_step {s t : State} (he : headEvent s ≠ .rst) (h : step s = .next t) : KeptOrCommitted s t := by
  have hnext : KeptOrCommitted (nextEvent s).2 t := by
    rcases step_cases h with ⟨r, i, -, -, hexec⟩ | hevent
    · exact keptOrCommitted_exec hexec
    · exact keptOrCommitted_applyEvent he hevent
  obtain ⟨rest, hrest⟩ := nextEvent_frame s
  rw [hrest] at hnext
  exact hnext

/-! ### The obligation -/

/-- Settles O39: every step keeps the result registers or commits a frame. -/
theorem switchResultChangesOnlyByACommit : Obligations.SwitchResultChangesOnlyByACommit := by
  intro s t he h
  rcases keptOrCommitted_step he h with hkept | hcommit
  · exact .inl (switchResult_eq_iff.1 hkept)
  · exact .inr hcommit

end Sys2Proof.Machine
end

section
/-! The switch read: what each half of R101 makes of the state, and the two results of RDSW from an idle block. -/

namespace Sys2Proof.Machine

/-! ### The parts of a switch read -/

/-- Steps 1 to 3 of R101: three events; of the lines only SW_CS_N and SW_LOAD have moved. -/
theorem selectAndLoad_eq (s : State) :
    selectAndLoad s =
      { s with
        lines := { s.lines with swCsN := .low, swLoad := .high }
        trace := s.trace ++ [.lineSet .swCsN false, .lineSet .swLoad false, .lineSet .swLoad true] } := by
  simp [selectAndLoad, driveLine, setLevel, levelOf]

/-- The state the answer of the read finds, whatever the answer: four events, and the Link asked where it is open. -/
theorem linkRead_selectAndLoad_eq (s : State) :
    linkRead (selectAndLoad s) =
      { s with
        lines := { s.lines with swCsN := .low, swLoad := .high }
        trace := s.trace ++ [.lineSet .swCsN false, .lineSet .swLoad false, .lineSet .swLoad true,
          .read 3 (readAnswer s).cnt (deliveredBytes (readAnswer s))]
        link := linkAfterRead s
        draws := drawsAfter s } := by
  have hread : linkRead (selectAndLoad s) =
      { selectAndLoad s with
        link := linkAfterRead s
        draws := drawsAfter s
        trace := (selectAndLoad s).trace ++ [.read 3 (readAnswer s).cnt (deliveredBytes (readAnswer s))] } := rfl
  rw [hread, selectAndLoad_eq]
  simp only [List.append_assoc, List.cons_append, List.nil_append]

/-- Steps 7 to 10 of R101 on a frame that stands in `rx_buf`: deselect, commit and result (R103 to R105). -/
theorem finishRead_eq (s : State) :
    finishRead s =
      { s with
        swAddr := decode16 (s.rx.buf1 ++ s.rx.buf0)
        swCmd := s.rx.buf2
        frameValid := true
        ph := .idle
        lines := { s.lines with swCsN := .high }
        trace := s.trace ++ [.lineSet .swCsN true]
        results := s.results ++ [.rdsw (decode16 (s.rx.buf1 ++ s.rx.buf0)) s.rx.buf2] } := by
  have hframe : parsedFrame (driveLine .swCsN true s) = (decode16 (s.rx.buf1 ++ s.rx.buf0), s.rx.buf2) :=
    parse24_eq s.rx.buf0 s.rx.buf1 s.rx.buf2
  simp only [finishRead, commitFrame, hframe]
  rfl

/-- A read of count 3 goes on to steps 7 to 10 of R101, with the bytes stored. -/
theorem readSwitches_three {s : State} (h : (readAnswer s).cnt = 3) :
    readSwitches s = finishRead (storeFrame (readAnswer s) (linkRead (selectAndLoad s))) :=
  acceptRead_three _ _ h

/-- A read of any other count is the link fault (R102). -/
theorem readSwitches_fault {s : State} (h : (readAnswer s).cnt ≠ 3) :
    readSwitches s = raiseLinkFault (readAnswer s).cnt (linkRead (selectAndLoad s)) :=
  acceptRead_fault _ _ h

/-- An idle block accepts RDSW (30_encoding.md R66). -/
theorem exec_rdsw_idle {s : State} (h : s.ph = .idle) : exec .rdsw s = .next (readSwitches s) :=
  congrArg Host.Outcome.next (ifAccepted_idle readSwitches h)

/-! ### The obligations -/

/-- Settles O22: a read of count 3 stores its bytes in `rx_buf`, and the commit parses them from there. -/
theorem rdswCommitsAThreeByteFrame : Obligations.RdswCommitsAThreeByteFrame := by
  intro s b0 b1 b2 hidle hopen hread
  have hanswer : readAnswer s = ⟨3, b0, b1, b2⟩ := (readAnswer_open hopen).trans hread
  have hcnt : (readAnswer s).cnt = 3 := congrArg ReadAnswer.cnt hanswer
  refine ⟨drawsAfter s, ?_⟩
  rw [exec_rdsw_idle hidle, readSwitches_three hcnt, finishRead_eq, linkRead_selectAndLoad_eq,
    linkAfterRead_open hopen, deliveredBytes_three hcnt, hanswer]
  simp [storeFrame, hidle]

/-- Settles O23: every other count enters HALT from the state the read left, with nothing committed. -/
theorem rdswFaultsOnEveryOtherCount : Obligations.RdswFaultsOnEveryOtherCount := by
  intro s hidle hcnt
  refine ⟨rxAfterFault (linkRead (selectAndLoad s)), drawsAfter s + drawsPerUse, ?_⟩
  rw [exec_rdsw_idle hidle, readSwitches_fault hcnt, linkRead_selectAndLoad_eq]
  rfl

end Sys2Proof.Machine
end

section
/-! The LED write: the body that WRLED and INIT's patterns share as one update of the state, the result of WRLED from an
idle block, and the rows of the opcode table that raise no link fault. -/

namespace Sys2Proof.Machine

/-! ### The parts of a write -/

/-- The short-write check of a write whose flag starts anew (42_led_write.md R124). -/
theorem checkShort_eq {s : State} (h : s.wrShort = false) :
    checkShort s =
      { s with
        wrShort := decide (s.tx.cnt ≠ ledFrameCount s)
        log := s.log ++ (if s.tx.cnt = ledFrameCount s then [] else [.shortWrite s.tx.cnt]) } := by
  rcases checkShort_cases s with ⟨hcnt, hcheck⟩ | ⟨hcnt, hcheck⟩
  · simp [hcheck, hcnt, ← h]
  · simp [hcheck, hcnt]

/-- Steps 1 to 4 of R122: the state the short-write check finds but for the strobe, whatever the Link took. -/
theorem linkWrite_strobeLow_latchOperands_eq (st d : Byte) (b : Word16) (s : State) :
    linkWrite (strobeLow (latchOperands st d b s)) =
      { s with
        tx := txAfterLinkWrite (strobeLow (latchOperands st d b s))
        wrShort := false
        lines := { s.lines with ledStore := .low }
        trace := s.trace ++ [.lineSet .ledStore false,
          .write ([loByte b, hiByte b, d, st].take s.params.ledFrameBytes.count) (writeAnswer s)]
        link := linkAfterWrite s
        draws := drawsAfter s } := by
  have hbytes : txBytes (strobeLow (latchOperands st d b s)) =
      [loByte b, hiByte b, d, st].take s.params.ledFrameBytes.count := txBytes_of_word rfl
  ext1
  case trace => simp [hbytes, writeAnswer_strobeLow]
  all_goals rfl

/-- Steps 1 to 6 of R122 as one update (42_led_write.md R122 to R124). -/
theorem writeBody_eq (st d : Byte) (b : Word16) (s : State) :
    writeBody st d b s =
      { s with
        tx := txAfterLinkWrite (strobeLow (latchOperands st d b s))
        wrShort := decide (writeAnswer s ≠ ledFrameCount s)
        log := s.log ++ (if writeAnswer s = ledFrameCount s then [] else [.shortWrite (writeAnswer s)])
        lines := { s.lines with ledStore := .high }
        trace := s.trace ++ [.lineSet .ledStore false,
          .write ([loByte b, hiByte b, d, st].take s.params.ledFrameBytes.count) (writeAnswer s),
          .lineSet .ledStore true]
        link := linkAfterWrite s
        draws := drawsAfter s } := by
  have hcnt : (txAfterLinkWrite (strobeLow (latchOperands st d b s))).cnt = writeAnswer s := txAfterLinkWrite_cnt _
  rw [writeBody, strobeHighAndCheck, linkWrite_strobeLow_latchOperands_eq, checkShort_eq rfl]
  simp only [driveLine, setLevel_ledStore_high, hcnt, List.append_assoc, List.cons_append, List.nil_append]
  rfl

/-- The packed operands and the Link's count are the two fields of the transmit registers that a write determines in every
case (R123, R124; the others are log entry 7). -/
theorem txAfterLinkWrite_latched_eq (st d : Byte) (b : Word16) (s : State) :
    ∃ sh bitc bytec, txAfterLinkWrite (strobeLow (latchOperands st d b s)) =
      ⟨st ++ d ++ b, sh, bitc, bytec, writeAnswer s⟩ := by
  refine ⟨_, _, _, Tx.ext ?_ rfl rfl rfl (txAfterLinkWrite_cnt _)⟩
  rw [txAfterLinkWrite_word]
  exact pack32_eq_append st d b

/-- An idle block accepts WRLED (30_encoding.md R66). -/
theorem exec_wrled_idle (st d : Byte) (b : Word16) {s : State} (h : s.ph = .idle) :
    exec (.wrled st d b) s = .next (writeStatus st d b s) :=
  congrArg Host.Outcome.next (ifAccepted_idle (writeStatus st d b) h)

/-! ### The link fault -/

/-- What the link fault sets beside the phase (60_exceptions.md R158). -/
def faultFlags (s : State) : Bool × Cause := (s.fault, s.cause)

/-- `t` comes from `s` without a link fault: `fault`, `cause` and HALT are as before (R162). -/
def RaisesNoFault (s t : State) : Prop := faultFlags t = faultFlags s ∧ (t.ph = .halt ↔ s.ph = .halt)

theorem raisesNoFault_iff {s t : State} :
    RaisesNoFault s t ↔ t.fault = s.fault ∧ t.cause = s.cause ∧ (t.ph = .halt ↔ s.ph = .halt) := by
  simp only [RaisesNoFault, faultFlags, Prod.mk.injEq, and_assoc]

/-- An operation that keeps the flags and ends in IDLE raises no fault, whether its `Start` is accepted or not. -/
theorem raisesNoFault_ifAccepted {body : State → State} (hflags : ∀ s, faultFlags (body s) = faultFlags s)
    (hend : ∀ s, (body s).ph = .idle) (s : State) : RaisesNoFault s (ifAccepted body s) := by
  rcases eq_or_ne s.ph .idle with h | h
  · rw [ifAccepted_idle body h]
    exact ⟨hflags s, by rw [hend, h]⟩
  · rw [ifAccepted_ignored body h]
    exact ⟨rfl, Iff.rfl⟩

/-- A short write is no fault (42_led_write.md R124). -/
theorem faultFlags_writeBody (st d : Byte) (b : Word16) (s : State) :
    faultFlags (writeBody st d b s) = faultFlags s := by
  rw [writeBody_eq]
  rfl

theorem faultFlags_showPatterns (s : State) : faultFlags (showPatterns s) = faultFlags s := by
  rw [showPatterns, writePattern, faultFlags_writeBody]
  exact faultFlags_writeBody _ _ _ s

/-- Neither end of INIT is a fault, the failing one included (43_init.md R146). -/
theorem faultFlags_initializeHardware (s : State) : faultFlags (initializeHardware s) = faultFlags s := by
  simp only [initializeHardware]
  split
  · exact faultFlags_showPatterns _
  · rfl

theorem initializeHardware_ph (s : State) : (initializeHardware s).ph = .idle := by
  simp only [initializeHardware]
  split <;> rfl

/-- No row of the opcode table but RDSW raises the link fault (60_exceptions.md R162). -/
theorem raisesNoFault_exec {i : Instr} {s t : State} (hi : i ≠ .rdsw) (h : exec i s = .next t) : RaisesNoFault s t := by
  cases i
  case rdsw => exact absurd rfl hi
  case nop =>
    cases h
    exact raisesNoFault_ifAccepted (body := complete .nop) (fun _ => rfl) (complete_ph .nop) s
  case init =>
    cases h
    exact raisesNoFault_ifAccepted faultFlags_initializeHardware initializeHardware_ph s
  case wrled st d b =>
    cases h
    exact raisesNoFault_ifAccepted (body := writeStatus st d b) (faultFlags_writeBody st d b) (fun _ => rfl) s
  all_goals
    cases h
    exact ⟨rfl, Iff.rfl⟩

/-! ### The obligations -/

/-- Settles O25: WRLED is the shared body of a write and its result. -/
theorem wrledSendsThePackedFrame : Obligations.WrledSendsThePackedFrame := by
  intro s st d b hidle
  obtain ⟨sh, bitc, bytec, htx⟩ := txAfterLinkWrite_latched_eq st d b s
  refine ⟨sh, bitc, bytec, drawsAfter s, ?_⟩
  rw [exec_wrled_idle st d b hidle, writeStatus, writeBody_eq, htx, complete, ← hidle]
  rfl

/-- Settles O40: RDSW alone reads, and every other `Start` ends in IDLE. -/
theorem onlyRdswRaisesTheLinkFault : Obligations.OnlyRdswRaisesTheLinkFault := by
  intro i s t hi h
  exact raisesNoFault_iff.1 (raisesNoFault_exec hi h)

end Sys2Proof.Machine
end

section
/-! INIT: the opening of the device and the two patterns as one update of the state each, the two results of INIT from an
idle block, and what they depend on. -/

namespace Sys2Proof.Machine

/-! ### The opening of the device -/

/-- Steps 1 to 3 of R140. -/
def resetAndOpen (s : State) : State := linkOpenDevice Config.serialCfg (clearAndResetLines s)

/-- Steps 1 to 3 of R140 as one update (43_init.md R141, R142). -/
theorem resetAndOpen_eq (s : State) :
    resetAndOpen s =
      { s with
        linkOpen := openAnswer Config.serialCfg s
        initOk := false
        lines := safeLines s.params
        trace := s.trace ++ [.linesReset (safeLines s.params), .opened (openAnswer Config.serialCfg s)]
        link := { s.link with opens := s.link.opens.tail }
        draws := s.draws + drawsPerUse } := by
  have hopen : resetAndOpen s =
      { clearAndResetLines s with
        linkOpen := openAnswer Config.serialCfg s
        link := { s.link with opens := s.link.opens.tail }
        draws := s.draws + drawsPerUse
        trace := (clearAndResetLines s).trace ++ [.opened (openAnswer Config.serialCfg s)] } := rfl
  rw [hopen]
  simp [clearAndResetLines, linesReset]

theorem resetAndOpen_linkOpen (s : State) : (resetAndOpen s).linkOpen = openAnswer Config.serialCfg s := rfl

/-- What the Link answers to an opening depends on its queue and the counter of the free values alone. -/
theorem openAnswer_congr (cfg : SerialCfg) {s s' : State} (hl : s.link = s'.link) (hd : s.draws = s'.draws) :
    openAnswer cfg s = openAnswer cfg s' := by
  simp only [openAnswer, hl, hd]

/-- INIT goes on to the patterns where the device opened (R143, R145). -/
theorem initializeHardware_opened {s : State} (h : openAnswer Config.serialCfg s = true) :
    initializeHardware s = succeedInit (showPatterns (resetAndOpen s)) :=
  if_pos ((resetAndOpen_linkOpen s).trans h)

/-- INIT ends at once where the device did not open (R146). -/
theorem initializeHardware_notOpened {s : State} (h : openAnswer Config.serialCfg s = false) :
    initializeHardware s = failInit (resetAndOpen s) :=
  if_neg (ne_true_of_eq_false ((resetAndOpen_linkOpen s).trans h))

/-- An idle block accepts INIT (30_encoding.md R66). -/
theorem exec_init_idle {s : State} (h : s.ph = .idle) : exec .init s = .next (initializeHardware s) :=
  congrArg Host.Outcome.next (ifAccepted_idle initializeHardware h)

/-! ### The patterns -/

/-- The events of one pattern write of count `cnt` (R143). -/
def patternEvents (ps : Params) (p : Pattern) (cnt : Int) : List TraceEvent :=
  [.lineSet .ledStore false, .write (ser ps.ledFrameBytes (pack32 p.status p.data p.bus)) cnt, .lineSet .ledStore true]

/-- The log entries of one write of count `cnt` (42_led_write.md R124). -/
def shortEntries (ps : Params) (cnt : Int) : List LogEntry :=
  if cnt = ps.ledFrameBytes.count then [] else [.shortWrite cnt]

/-- The transmit registers a pattern write from `s` leaves. -/
def patternTx (p : Pattern) (s : State) : Tx := txAfterLinkWrite (strobeLow (latchOperands p.status p.data p.bus s))

/-- One pattern write on an open device as one update. -/
theorem writePattern_eq (p : Pattern) {s : State} (h : s.linkOpen = true) :
    writePattern p s =
      { s with
        tx := patternTx p s
        wrShort := decide (writeAnswer s ≠ s.params.ledFrameBytes.count)
        log := s.log ++ shortEntries s.params (writeAnswer s)
        lines := { s.lines with ledStore := .high }
        trace := s.trace ++ patternEvents s.params p (writeAnswer s)
        link := { s.link with writes := s.link.writes.tail }
        draws := s.draws + drawsPerUse } := by
  have hbytes : ser s.params.ledFrameBytes (pack32 p.status p.data p.bus) =
      [loByte p.bus, hiByte p.bus, p.data, p.status].take s.params.ledFrameBytes.count :=
    txBytes_of_word (s := strobeLow (latchOperands p.status p.data p.bus s)) rfl
  rw [writePattern, writeBody_eq, linkAfterWrite_open h, drawsAfter, if_pos h, patternEvents, hbytes]
  rfl

/-- Steps 5 and 6 of R140: the state the second pattern finds. -/
def showAllOn (s : State) : State := delayFor .settleDelay (writePattern s.params.diagAllOn s)

/-- Steps 5 and 6 of R140 on an open device as one update (R143, R144). -/
theorem showAllOn_eq {s : State} (h : s.linkOpen = true) :
    showAllOn s =
      { s with
        tx := patternTx s.params.diagAllOn s
        wrShort := decide (writeAnswer s ≠ s.params.ledFrameBytes.count)
        log := s.log ++ shortEntries s.params (writeAnswer s)
        lines := { s.lines with ledStore := .high }
        trace := s.trace ++ patternEvents s.params s.params.diagAllOn (writeAnswer s) ++ [.delay .settleDelay]
        link := { s.link with writes := s.link.writes.tail }
        draws := s.draws + drawsPerUse } := by
  rw [showAllOn, writePattern_eq _ h]
  rfl

theorem showAllOn_linkOpen {s : State} (h : s.linkOpen = true) : (showAllOn s).linkOpen = true := by
  rw [showAllOn_eq h]
  exact h

/-- Steps 5 to 7 of R140 on an open device as one update: each write has its own count, and it is the second one's that
`tx` and `wr_short` keep. -/
theorem showPatterns_eq {s : State} (h : s.linkOpen = true) :
    showPatterns s =
      { s with
        tx := patternTx s.params.diagAlt (showAllOn s)
        wrShort := decide (writeAnswer (showAllOn s) ≠ s.params.ledFrameBytes.count)
        log := s.log ++ (shortEntries s.params (writeAnswer s) ++ shortEntries s.params (writeAnswer (showAllOn s)))
        lines := { s.lines with ledStore := .high }
        trace := s.trace ++ (patternEvents s.params s.params.diagAllOn (writeAnswer s) ++ .delay .settleDelay ::
          patternEvents s.params s.params.diagAlt (writeAnswer (showAllOn s)))
        link := { s.link with writes := s.link.writes.tail.tail }
        draws := s.draws + drawsPerUse + drawsPerUse } := by
  have hsecond : showPatterns s = writePattern s.params.diagAlt (showAllOn s) := rfl
  rw [hsecond, writePattern_eq _ (showAllOn_linkOpen h), showAllOn_eq h]
  simp only [List.append_assoc, List.singleton_append]

/-! ### The two ends of INIT -/

/-- What the Link answers to the first pattern of INIT. -/
def allOnCount (s : State) : Int := writeAnswer (resetAndOpen s)

/-- What the Link answers to the second pattern of INIT. -/
def altCount (s : State) : Int := writeAnswer (showAllOn (resetAndOpen s))

/-- R140 on a device that opens, as one update (R145). -/
theorem initializeHardware_opened_eq {s : State} (h : openAnswer Config.serialCfg s = true) :
    initializeHardware s =
      { s with
        tx := patternTx s.params.diagAlt (showAllOn (resetAndOpen s))
        ph := .idle
        wrShort := decide (altCount s ≠ s.params.ledFrameBytes.count)
        linkOpen := true
        initOk := true
        log := s.log ++ (shortEntries s.params (allOnCount s) ++ shortEntries s.params (altCount s))
        lines := safeLines s.params
        trace := s.trace ++ (.linesReset (safeLines s.params) :: .opened true ::
          (patternEvents s.params s.params.diagAllOn (allOnCount s) ++ .delay .settleDelay ::
            patternEvents s.params s.params.diagAlt (altCount s)))
        results := s.results ++ [.init true]
        link := { s.link with opens := s.link.opens.tail, writes := s.link.writes.tail.tail }
        draws := s.draws + drawsPerUse + drawsPerUse + drawsPerUse } := by
  have hopen : (resetAndOpen s).linkOpen = true := (resetAndOpen_linkOpen s).trans h
  rw [initializeHardware_opened h, showPatterns_eq hopen, altCount, allOnCount]
  generalize showAllOn (resetAndOpen s) = u, writeAnswer (resetAndOpen s) = c
  simp [succeedInit, complete, resetAndOpen_eq, h, safeLines, Config.safeStrobe, levelOf]

/-- R140 on a device that does not open, as one update (R146). -/
theorem initializeHardware_notOpened_eq {s : State} (h : openAnswer Config.serialCfg s = false) :
    initializeHardware s =
      { s with
        ph := .idle
        linkOpen := false
        initOk := false
        log := s.log ++ [.initFail]
        lines := safeLines s.params
        trace := s.trace ++ [.linesReset (safeLines s.params), .opened false]
        results := s.results ++ [.init false]
        link := { s.link with opens := s.link.opens.tail }
        draws := s.draws + drawsPerUse } := by
  rw [initializeHardware_notOpened h, resetAndOpen_eq, h]
  rfl

/-! ### What the answers of the Link depend on -/

theorem writeAnswer_of_writes {s : State} {cnt : Int} {rest : List Int} (h : s.linkOpen = true)
    (hw : s.link.writes = cnt :: rest) : writeAnswer s = cnt := by
  simp only [writeAnswer, h, if_true, nextWrite, hw]

/-- Two states that the Link cannot tell apart: its answers to a write depend on no other field. -/
structure SameLink (s s' : State) : Prop where
  params : s.params = s'.params
  linkOpen : s.linkOpen = s'.linkOpen
  link : s.link = s'.link
  draws : s.draws = s'.draws

theorem SameLink.writeAnswer_eq {s s' : State} (h : SameLink s s') : writeAnswer s = writeAnswer s' := by
  simp only [writeAnswer, nextWrite, h.linkOpen, h.link, h.draws]

/-- A pattern overwrites every transmit register where the device is open. -/
theorem SameLink.patternTx_eq {s s' : State} (h : SameLink s s') (hopen : s.linkOpen = true) (p : Pattern) :
    patternTx p s = patternTx p s' := by
  have hopen' : s'.linkOpen = true := h.linkOpen ▸ hopen
  have htx : ∀ {u : State}, u.linkOpen = true → patternTx p u =
      txAfterWrite (writeAnswer u) (strobeLow (latchOperands p.status p.data p.bus u)) := fun hu => if_pos hu
  rw [htx hopen, htx hopen', h.writeAnswer_eq]
  exact txAfterWrite_congr _ rfl h.params h.draws

theorem SameLink.showAllOn {s s' : State} (h : SameLink s s') (hopen : s.linkOpen = true) :
    SameLink (showAllOn s) (showAllOn s') := by
  rw [showAllOn_eq hopen, showAllOn_eq (h.linkOpen ▸ hopen)]
  exact ⟨h.params, h.linkOpen, by simp only [h.link], by simp only [h.draws]⟩

/-- Whatever two states hold beside their parameters and the Link's answers, the Link cannot tell them apart after the
opening. -/
theorem sameLink_resetAndOpen {s s' : State} (hp : s.params = s'.params) (hl : s.link = s'.link)
    (hd : s.draws = s'.draws) : SameLink (resetAndOpen s) (resetAndOpen s') :=
  ⟨hp, openAnswer_congr Config.serialCfg hl hd, by simp only [resetAndOpen_eq, hl], by simp only [resetAndOpen_eq, hd]⟩

theorem allOnCount_of_writes {s : State} {x : Int} {r : List Int} (h : openAnswer Config.serialCfg s = true)
    (hw : s.link.writes = x :: r) : allOnCount s = x :=
  writeAnswer_of_writes ((resetAndOpen_linkOpen s).trans h) hw

theorem altCount_of_writes {s : State} {x y : Int} {r : List Int} (h : openAnswer Config.serialCfg s = true)
    (hw : s.link.writes = x :: y :: r) : altCount s = y := by
  have hopen : (resetAndOpen s).linkOpen = true := (resetAndOpen_linkOpen s).trans h
  have hqueue : (showAllOn (resetAndOpen s)).link.writes = s.link.writes.tail := by
    rw [showAllOn_eq hopen]
    rfl
  exact writeAnswer_of_writes (showAllOn_linkOpen hopen) (by rw [hqueue, hw, List.tail_cons])

/-! ### The obligations -/

/-- Settles O26: the two counts are the Link's answers to the two patterns. -/
theorem initSucceedsWhenTheDeviceOpens : Obligations.InitSucceedsWhenTheDeviceOpens := by
  intro s hidle hopens
  obtain ⟨sh, bitc, bytec, htx⟩ : ∃ sh bitc bytec, patternTx s.params.diagAlt (showAllOn (resetAndOpen s)) =
      ⟨s.params.diagAlt.status ++ s.params.diagAlt.data ++ s.params.diagAlt.bus, sh, bitc, bytec, altCount s⟩ :=
    txAfterLinkWrite_latched_eq _ _ _ _
  refine ⟨allOnCount s, altCount s, sh, bitc, bytec, s.draws + drawsPerUse + drawsPerUse + drawsPerUse,
    fun _ _ hw => allOnCount_of_writes hopens hw, fun _ _ _ hw => altCount_of_writes hopens hw, ?_⟩
  rw [exec_init_idle hidle, initializeHardware_opened_eq hopens, htx, ← hidle, ← List.append_assoc s.log]
  rfl

/-- Settles O27: without a device INIT ends after the opening. -/
theorem initFailsWhenTheDeviceDoesNotOpen : Obligations.InitFailsWhenTheDeviceDoesNotOpen := by
  intro s hidle hfails
  refine ⟨s.draws + drawsPerUse, ?_⟩
  rw [exec_init_idle hidle, initializeHardware_notOpened_eq hfails, ← hidle]
  rfl

/-- Settles O28: the Link cannot tell the two states apart, so both runs get the same answers, and each end of INIT is an
update by the parameters and these answers alone. -/
theorem initDoesNotDependOnTheStateItFinds : Obligations.InitDoesNotDependOnTheStateItFinds := by
  intro s s' t t' hidle hidle' hp hl hd ht ht'
  rw [exec_init_idle hidle, Host.Outcome.next.injEq] at ht
  rw [exec_init_idle hidle', Host.Outcome.next.injEq] at ht'
  have hanswer : openAnswer Config.serialCfg s = openAnswer Config.serialCfg s' := openAnswer_congr _ hl hd
  cases hcase : openAnswer Config.serialCfg s with
  | true =>
    have hfirst : SameLink (resetAndOpen s) (resetAndOpen s') := sameLink_resetAndOpen hp hl hd
    have hopen : (resetAndOpen s).linkOpen = true := (resetAndOpen_linkOpen s).trans hcase
    have hsecond : SameLink (showAllOn (resetAndOpen s)) (showAllOn (resetAndOpen s')) := hfirst.showAllOn hopen
    have hc1 : allOnCount s = allOnCount s' := hfirst.writeAnswer_eq
    have hc2 : altCount s = altCount s' := hsecond.writeAnswer_eq
    have htx := hsecond.patternTx_eq (showAllOn_linkOpen hopen) s.params.diagAlt
    rw [initializeHardware_opened_eq hcase, htx, hc1, hc2, hp, hl, hd] at ht
    rw [initializeHardware_opened_eq (hanswer ▸ hcase)] at ht'
    subst ht ht'
    exact ⟨rfl, rfl, rfl, rfl, rfl, rfl, ⟨_, rfl, rfl⟩, ⟨_, rfl, rfl⟩, ⟨_, rfl, rfl⟩,
      fun _ => ⟨rfl, rfl⟩, nofun⟩
  | false =>
    rw [initializeHardware_notOpened_eq hcase, hp, hl, hd] at ht
    rw [initializeHardware_notOpened_eq (hanswer ▸ hcase)] at ht'
    subst ht ht'
    exact ⟨rfl, rfl, rfl, rfl, rfl, rfl, ⟨_, rfl, rfl⟩, ⟨_, rfl, rfl⟩, ⟨_, rfl, rfl⟩,
      nofun, fun _ => ⟨rfl, rfl, rfl, rfl⟩⟩

end Sys2Proof.Machine
end

section
/-! What a step can do, said once: a row that is evaluated for an observer, an operation run as one big step, or the effect of
another event. -/

namespace Sys2Proof.Machine

/-- An operation of the opcode table as one big step, without the check that the block is idle. -/
def opBody (op : OpCode) (st d : Byte) (b : Word16) : State → State :=
  match op with
  | .nop => complete .nop
  | .init => initializeHardware
  | .rdsw => readSwitches
  | .wrled => writeStatus st d b

/-- Every row either evaluates a pure function for an observer or is an operation (30_encoding.md R66, log entry 10). -/
theorem exec_cases {i : Instr} {s t : State} (h : exec i s = .next t) :
    (instrOp i = none ∧ ∃ v, t = observe v s) ∨
      ∃ op st d b, instrOp i = some op ∧ t = ifAccepted (opBody op st d b) s := by
  cases i
  case nop => cases h; exact .inr ⟨.nop, 0, 0, 0, rfl, rfl⟩
  case init => cases h; exact .inr ⟨.init, 0, 0, 0, rfl, rfl⟩
  case rdsw => cases h; exact .inr ⟨.rdsw, 0, 0, 0, rfl, rfl⟩
  case wrled st d b => cases h; exact .inr ⟨.wrled, st, d, b, rfl, rfl⟩
  all_goals
    cases h
    exact .inl ⟨rfl, _, rfl⟩

/-- `StepEffect e u t`: the event `e`, taken in the state `u`, leaves `t`. -/
inductive StepEffect (e : Event) (u : State) : State → Prop
  /-- A row that is no operation (log entry 10). -/
  | observed (v : Evaluated) : eventOp e = none → StepEffect e u (observe v u)
  /-- An operation as one big step (00_scope.md R3). -/
  | issued (op : OpCode) (st d : Byte) (b : Word16) :
      eventOp e = some op → StepEffect e u (ifAccepted (opBody op st d b) u)
  /-- Any other event (log entry 13). -/
  | applied {t : State} : applyEvent e u = .inr t → StepEffect e u t

/-- Only a big-step `Start` leaves a request to the decoder. -/
theorem applyEvent_eq_inl {e : Event} {s : State} {r : Request} (h : applyEvent e s = .inl r) : e = .start r := by
  cases e with
  | start r' => cases h; rfl
  | _ => cases h

/-- A request issues the operation of the row it decodes to. -/
theorem eventOp_start {r : Request} {i : Instr} (h : decode r = .ok i) : eventOp (.start r) = instrOp i := by
  simp only [eventOp, h]

/-- Everything a step that answers a next state does, with the event it takes removed from the list. -/
theorem step_effect {s t : State} (h : step s = .next t) :
    ∃ rest, StepEffect (headEvent s) { s with events := rest } t := by
  obtain ⟨rest, hrest⟩ := nextEvent_frame s
  refine ⟨rest, ?_⟩
  rw [← hrest]
  rcases step_cases h with ⟨r, i, hreq, hdec, hexec⟩ | hevent
  · have hop : eventOp (headEvent s) = instrOp i := by
      rw [headEvent, applyEvent_eq_inl hreq, eventOp_start hdec]
    rcases exec_cases hexec with ⟨hnone, v, rfl⟩ | ⟨op, st, d, b, hsome, rfl⟩
    · exact .observed v (hop.trans hnone)
    · exact .issued op st d b (hop.trans hsome)
  · exact .applied hevent

end Sys2Proof.Machine
end

section
/-! The invariant: what it says of an idle block, what a phase hands to the next one, and that every step keeps it. -/

namespace Sys2Proof.Machine

/-! ### An idle block and a halted block -/

/-- What the invariant says of an idle block. -/
structure IdleInv (s : State) : Prop where
  fault : s.fault = false
  cause : s.cause = .noFault
  device : s.initOk = true → s.linkOpen = true
  lines : s.initOk = true → s.lines = safeLines s.params

/-- A block that is not in HALT has no fault and no cause (60_exceptions.md R158). -/
theorem Inv.noFault {s : State} (h : Inv s) (hph : s.ph ≠ .halt) : s.fault = false ∧ s.cause = .noFault := by
  have hfault : s.fault = false := eq_false_of_ne_true fun hf => hph (h.fault_iff_halt.1 hf)
  refine ⟨hfault, ?_⟩
  cases hc : s.cause with
  | noFault => rfl
  | linkRd => exact absurd (h.cause_iff_fault.1 hc) (ne_true_of_eq_false hfault)

theorem Inv.idle {s : State} (h : Inv s) (hph : s.ph = .idle) : IdleInv s := by
  have hhalt : s.ph ≠ .halt := by simp [hph]
  obtain ⟨hfault, hcause⟩ := h.noFault hhalt
  refine ⟨hfault, hcause, h.initOk_open, fun hinit => ?_⟩
  have hlines := h.lines_known (.inl hinit) hhalt
  rw [hph] at hlines
  exact (Option.some.inj hlines).symm

theorem IdleInv.inv {s : State} (h : IdleInv s) (hph : s.ph = .idle) : Inv s := by
  obtain ⟨hfault, hcause, hdevice, hlines⟩ := h
  constructor
  case lines_known =>
    rintro (hinit | hreset) -
    · rw [hph, hlines hinit]
      rfl
    · simp [hph, linesAreReset] at hreset
  all_goals simp_all [inInit, deviceIsOpen, selecting, strobing, writing]

/-- The link fault sets everything the invariant asks of HALT (R158). -/
theorem inv_raiseLinkFault (cnt : Int) {s : State} (h : s.initOk = true → s.linkOpen = true) :
    Inv (raiseLinkFault cnt s) where
  fault_iff_halt := ⟨fun _ => rfl, fun _ => rfl⟩
  cause_iff_fault := ⟨fun _ => rfl, fun _ => rfl⟩
  halt_undriven := fun _ => rfl
  initOk_open := h
  init_clears := nofun
  init_open := nofun
  select_low := nofun
  strobe_low := nofun
  lines_known := fun _ hhalt => absurd rfl hhalt
  write_room := nofun
  commit_whole := nofun

/-! ### From one phase to the next -/

/-- The flags, the device and the parameters: what only INIT's own phases, the link fault and a reset write. -/
def standing (s : State) : Bool × Cause × Bool × Bool × Params := (s.fault, s.cause, s.initOk, s.linkOpen, s.params)

/-- Nothing that the invariant ties to the phases of INIT or to HALT becomes due by going from `p` to `q`. -/
abbrev Follows (p q : Phase) : Prop :=
  p ≠ .halt ∧ q ≠ .halt ∧ (inInit q = true → inInit p = true) ∧ (deviceIsOpen q = true → deviceIsOpen p = true) ∧
    (linesAreReset q = true → linesAreReset p = true)

/-- What the invariant says of the lines in the phase `p`; `known` says that INIT has reset them. -/
structure LinesFit (ps : Params) (p : Phase) (known : Prop) (ls : Lines) : Prop where
  select : selecting p = true → ls.swCsN = .low
  strobe : strobing p = true → ls.ledStore = .low
  levels : known → phaseLines ps p = some ls

/-- What the invariant says of the counters. -/
structure CountersFit (s : State) : Prop where
  room : writing s.ph = true → s.tx.bytec.val < s.params.ledFrameBytes.count
  whole : s.ph = .rd5 → s.rx.bytec = 3 ∧ s.rx.bitc = 0

/-- A step from the phase `p` to the phase `q` keeps the invariant where it leaves the flags, moves the lines as the two
phases have them and leaves the counters as the second one needs them. -/
theorem Inv.advance {s t : State} (h : Inv s) {p q : Phase} (hp : s.ph = p) (hq : t.ph = q) (hpq : Follows p q)
    (hflags : standing t = standing s)
    (hlines : ∀ known, LinesFit s.params p known s.lines → LinesFit s.params q known t.lines) (hcount : CountersFit t) :
    Inv t := by
  subst hp hq
  obtain ⟨hs, ht, hinit, hopen, hreset⟩ := hpq
  obtain ⟨hfault, hcause⟩ := h.noFault hs
  simp only [standing, Prod.mk.injEq, hfault, hcause] at hflags
  obtain ⟨hfault', hcause', hinitOk, hlinkOpen, hparams⟩ := hflags
  have hfit := hlines (s.initOk = true ∨ linesAreReset s.ph = true)
    ⟨h.select_low, h.strobe_low, fun hknown => h.lines_known hknown hs⟩
  exact {
    fault_iff_halt := by simp [hfault', ht]
    cause_iff_fault := by simp [hfault', hcause']
    halt_undriven := fun hhalt => absurd hhalt ht
    initOk_open := by rw [hinitOk, hlinkOpen]; exact h.initOk_open
    init_clears := fun hin => hinitOk.trans (h.init_clears (hinit hin))
    init_open := fun hdev => hlinkOpen.trans (h.init_open (hopen hdev))
    select_low := hfit.select
    strobe_low := hfit.strobe
    lines_known := fun hknown _ => by
      rw [hparams]
      exact hfit.levels (hknown.imp (fun hi => hinitOk.symm.trans hi) hreset)
    write_room := hcount.room
    commit_whole := hcount.whole }

/-- The same phase and the same lines: only counters may have moved. -/
theorem Inv.stay {s t : State} (h : Inv s) (hrun : s.ph ≠ .halt) (hph : t.ph = s.ph) (hflags : standing t = standing s)
    (hlines : t.lines = s.lines) (hcount : CountersFit t) : Inv t :=
  h.advance rfl hph ⟨hrun, hrun, id, id, id⟩ hflags (fun _ => by rw [hlines]; exact id) hcount

/-- The invariant reads neither the trace, the log and the other lists, nor the result registers, the Link, the counter of
the free values or the Host's values, and of the transmit registers the byte counter alone. -/
theorem Inv.congr {s t : State} (h : Inv s) (hph : t.ph = s.ph) (hflags : standing t = standing s)
    (hlines : t.lines = s.lines) (hrx : t.rx = s.rx) (htx : t.tx.bytec = s.tx.bytec) : Inv t := by
  simp only [standing, Prod.mk.injEq] at hflags
  obtain ⟨hfault, hcause, hinitOk, hlinkOpen, hparams⟩ := hflags
  constructor <;> simp only [hph, hfault, hcause, hinitOk, hlinkOpen, hparams, hlines, hrx, htx]
  exacts [h.fault_iff_halt, h.cause_iff_fault, h.halt_undriven, h.initOk_open, h.init_clears, h.init_open, h.select_low,
    h.strobe_low, h.lines_known, h.write_room, h.commit_whole]

/-- In a phase that neither writes nor commits, the counters are free. -/
theorem countersFit_of_not {s : State} (hw : writing s.ph = false) (hc : s.ph ≠ .rd5) : CountersFit s :=
  ⟨fun h => absurd h (ne_true_of_eq_false hw), fun h => absurd h hc⟩

/-- The counters are cleared on entry to a write phase (10_state.md R18), and a frame has a byte. -/
theorem countersFit_of_cleared {s : State} (h : s.tx.bytec = 0) (hc : s.ph ≠ .rd5) : CountersFit s := by
  refine ⟨fun _ => ?_, fun hrd5 => absurd hrd5 hc⟩
  rw [h]
  cases s.params.ledFrameBytes <;> decide

/-! ### The lines from phase to phase (41_switch_read.md R107, 42_led_write.md R127, 43_init.md R148) -/

section Lines
variable {ps : Params} {p q : Phase} {known : Prop} {ls : Lines}

/-- Where the two phases have the lines alike, nothing needs to move. -/
theorem LinesFit.keep (h : LinesFit ps p known ls) (hsel : selecting q = true → selecting p = true)
    (hstr : strobing q = true → strobing p = true) (hls : phaseLines ps q = phaseLines ps p) : LinesFit ps q known ls :=
  ⟨fun hq => h.select (hsel hq), fun hq => h.strobe (hstr hq), fun hk => hls.trans (h.levels hk)⟩

theorem LinesFit.select_rd2 (h : LinesFit ps .rd1 known ls) : LinesFit ps .rd2 known { ls with swCsN := .low } :=
  ⟨fun _ => rfl, nofun, fun hk => by cases h.levels hk; rfl⟩

theorem LinesFit.load_rd3 (h : LinesFit ps .rd2 known ls) : LinesFit ps .rd3 known { ls with swLoad := .low } :=
  ⟨fun _ => h.select rfl, nofun, fun hk => by cases h.levels hk; rfl⟩

theorem LinesFit.loaded_rd4 (h : LinesFit ps .rd3 known ls) : LinesFit ps .rd4 known { ls with swLoad := .high } :=
  ⟨fun _ => h.select rfl, nofun, fun hk => by cases h.levels hk; rfl⟩

theorem LinesFit.deselect_idle (h : LinesFit ps .rd5 known ls) : LinesFit ps .idle known { ls with swCsN := .high } :=
  ⟨nofun, nofun, fun hk => by cases h.levels hk; rfl⟩

/-- The store strobe goes low on entry to a write phase. -/
theorem LinesFit.strobe_low (h : LinesFit ps p known ls) (hp : phaseLines ps p = some (safeLines ps))
    (hq : phaseLines ps q = some { safeLines ps with ledStore := .low }) (hsel : selecting q = false) :
    LinesFit ps q known { ls with ledStore := .low } :=
  ⟨fun hs => absurd hs (ne_true_of_eq_false hsel), fun _ => rfl, fun hk => by
    cases hp.symm.trans (h.levels hk); exact hq⟩

/-- The store strobe goes back to its safe level, high, after the write. -/
theorem LinesFit.strobe_high (h : LinesFit ps p known ls)
    (hp : phaseLines ps p = some { safeLines ps with ledStore := .low }) (hq : phaseLines ps q = some (safeLines ps))
    (hsel : selecting q = false) (hstr : strobing q = false) : LinesFit ps q known { ls with ledStore := .high } :=
  ⟨fun hs => absurd hs (ne_true_of_eq_false hsel), fun hs => absurd hs (ne_true_of_eq_false hstr), fun hk => by
    cases hp.symm.trans (h.levels hk); exact hq⟩

end Lines

/-! ### The operations under way -/

/-- The three write phases and the phases after them. -/
theorem afterWrite_cases {p q : Phase} (h : afterWrite p = some q) :
    (p = .wr2 ∧ q = .wr3) ∨ (p = .in4 ∧ q = .in5) ∨ (p = .in8 ∧ q = .in9) := by
  cases p <;> simp_all [afterWrite]

theorem writing_eq_isSome (p : Phase) : writing p = (afterWrite p).isSome := by
  cases p <;> rfl

/-- A write phase is left for the phase after it, whatever the counters hold. -/
theorem Inv.leaveWrite {s t : State} (h : Inv s) (hafter : afterWrite s.ph = some t.ph) (hflags : standing t = standing s)
    (hlines : t.lines = s.lines) : Inv t := by
  rcases afterWrite_cases hafter with ⟨hp, hq⟩ | ⟨hp, hq⟩ | ⟨hp, hq⟩
  all_goals
    refine h.advance hp hq (by decide) hflags (fun _ hfit => ?_) (countersFit_of_not (by rw [hq]; rfl) (by rw [hq]; nofun))
    rw [hlines]
    exact hfit.keep nofun (fun _ => rfl) rfl

/-- `WR2`, `IN4`, `IN8`, the write in one go. -/
theorem inv_writePhase {s : State} {q : Phase} (h : Inv s) (hafter : afterWrite s.ph = some q) : Inv (writePhase q s) := by
  rw [writePhase]
  split
  · exact h
  · exact h.leaveWrite hafter rfl rfl

/-- The end of a write phase at the finer levels. -/
theorem inv_endWrite {s : State} (h : Inv s) (cnt : Int) : Inv (endWrite cnt s) := by
  cases hafter : afterWrite s.ph with
  | none => rwa [endWrite_other cnt hafter]
  | some p =>
    rw [endWrite_writing cnt hafter]
    exact h.leaveWrite hafter rfl rfl

/-- A byte that is not the last of the frame leaves room for the next (42_led_write.md R127). -/
theorem countByte_lt {s : State} (h : s.tx.bytec.val < s.params.ledFrameBytes.count)
    (hmore : ((countByte s.tx.bytec).val : Int) ≠ ledFrameCount s) :
    (countByte s.tx.bytec).val < s.params.ledFrameBytes.count := by
  simp only [ledFrameCount, countByte, byteCount_val] at hmore ⊢
  omega

/-- A whole byte is counted while the frame has room for another, and ends the write phase when it has none. -/
theorem inv_byteTaken {s : State} (h : Inv s) (hw : writing s.ph = true) : Inv (byteTaken s) := by
  have hrun : s.ph ≠ .halt := fun hph => by simp [hph, writing] at hw
  have hrd5 : s.ph ≠ .rd5 := fun hph => by simp [hph, writing] at hw
  obtain ⟨q, hq⟩ : ∃ q, afterWrite s.ph = some q := Option.isSome_iff_exists.1 (writing_eq_isSome s.ph ▸ hw)
  rcases eq_or_ne ((countByte s.tx.bytec).val : Int) (ledFrameCount s) with hlast | hmore
  · have hend := endWrite_writing (ledFrameCount s) (s := { s with tx := { s.tx with bytec := countByte s.tx.bytec } }) hq
    rw [byteTaken_last hlast, hend]
    exact h.leaveWrite hq rfl rfl
  · rw [byteTaken_more hmore]
    exact h.stay hrun rfl rfl rfl ⟨fun _ => countByte_lt (h.write_room hw) hmore, fun hph => absurd hph hrd5⟩

/-- The read phase in one go: three bytes for the commit, or the link fault. -/
theorem inv_readPhase {s : State} (h : Inv s) (hph : s.ph = .rd4) : Inv (readPhase s) := by
  rw [readPhase]
  split
  · exact h
  · rcases eq_or_ne (readAnswer s).cnt 3 with hcnt | hcnt
    · rw [acceptRead_three _ _ hcnt]
      exact h.advance hph (q := .rd5) rfl (by decide) rfl (fun _ hfit => hfit.keep id id rfl) ⟨nofun, fun _ => ⟨rfl, rfl⟩⟩
    · rw [acceptRead_fault _ _ hcnt]
      exact inv_raiseLinkFault _ h.initOk_open

/-- The strobe goes back to high after a pattern of INIT or the frame of WRLED, and the check writes `wr_short` and the log
alone (42_led_write.md R122). -/
theorem strobeHighAndCheck_frame (s : State) :
    ∃ short log, strobeHighAndCheck s = { driveLine .ledStore true s with wrShort := short, log := log } :=
  checkShort_frame (driveLine .ledStore true s)

@[simp] theorem standing_strobeHighAndCheck (s : State) : standing (strobeHighAndCheck s) = standing s := by
  obtain ⟨_, _, hframe⟩ := strobeHighAndCheck_frame s
  rw [hframe]
  rfl

@[simp] theorem strobeHighAndCheck_lines (s : State) :
    (strobeHighAndCheck s).lines = { s.lines with ledStore := .high } := by
  obtain ⟨_, _, hframe⟩ := strobeHighAndCheck_frame s
  rw [hframe]
  rfl

/-- The levels the strobe leaves where it returns from a write to safe lines. -/
theorem safeLines_ledStore_high {ps : Params} {ls : Lines} (h : { safeLines ps with ledStore := .low } = ls) :
    { ls with ledStore := .high } = safeLines ps := by
  rw [← h]
  rfl

/-- What a phase of INIT has of the flags (43_init.md R140). -/
theorem Inv.init_flags {s : State} (h : Inv s) (hph : inInit s.ph = true) :
    s.fault = false ∧ s.cause = .noFault ∧ s.initOk = false := by
  have hrun : s.ph ≠ .halt := fun hhalt => by simp [hhalt, inInit] at hph
  obtain ⟨hfault, hcause⟩ := h.noFault hrun
  exact ⟨hfault, hcause, h.init_clears hph⟩

/-- `IN1`: the five lines are reset (43_init.md R141). -/
theorem inv_linesReset {s : State} (h : Inv s) (hph : s.ph = .in1) : Inv (setPh .in2 (linesReset s)) := by
  obtain ⟨hfault, hcause, hinit⟩ := h.init_flags (by rw [hph]; rfl)
  constructor <;> simp [hfault, hcause, hinit, phaseLines, deviceIsOpen, selecting, strobing, writing]

/-- `IN2`: INIT goes on where the device opened, and fails where it did not (R146, R148). -/
theorem inv_openPhase {s : State} (h : Inv s) (hph : s.ph = .in2) : Inv (openPhase s) := by
  obtain ⟨hfault, hcause, hinit⟩ := h.init_flags (by rw [hph]; rfl)
  have hlines : some (safeLines s.params) = some s.lines := by
    have hknown := h.lines_known (.inr (by rw [hph]; rfl)) (by rw [hph]; nofun)
    rwa [hph] at hknown
  rw [openPhase]
  split
  case isTrue hopen =>
    have hanswer : openAnswer Config.serialCfg s = true := hopen
    constructor <;> simp [hfault, hcause, hinit, hanswer, hlines, phaseLines, selecting, strobing, writing]
  case isFalse hclosed =>
    exact IdleInv.inv ⟨hfault, hcause, fun hok => absurd hok (ne_true_of_eq_false hinit),
      fun hok => absurd hok (ne_true_of_eq_false hinit)⟩ rfl

/-- `IN9`: INIT succeeds with the device open and the lines at their safe levels (R145). -/
theorem inv_succeedInit {s : State} (h : Inv s) (hph : s.ph = .in9) : Inv (succeedInit (strobeHighAndCheck s)) := by
  obtain ⟨hfault, hcause, -⟩ := h.init_flags (by rw [hph]; rfl)
  have hdevice : s.linkOpen = true := h.init_open (by rw [hph]; rfl)
  have hknown := h.lines_known (.inr (by rw [hph]; rfl)) (by rw [hph]; nofun)
  rw [hph] at hknown
  have hstanding := standing_strobeHighAndCheck s
  simp only [standing, Prod.mk.injEq, hfault, hcause, hdevice] at hstanding
  obtain ⟨hfault', hcause', -, hdevice', hparams⟩ := hstanding
  refine IdleInv.inv ⟨hfault', hcause', fun _ => hdevice', fun _ => ?_⟩ rfl
  calc (strobeHighAndCheck s).lines = { s.lines with ledStore := .high } := strobeHighAndCheck_lines s
    _ = safeLines s.params := safeLines_ledStore_high (Option.some.inj hknown)
    _ = safeLines (strobeHighAndCheck s).params := by rw [hparams]

/-- Every phase of a busy block keeps the invariant; an idle or a halted block does nothing. -/
theorem inv_tick {s : State} (h : Inv s) : Inv (tick s) := by
  cases hph : s.ph
  all_goals simp only [tick, hph]
  case idle => exact h
  case halt => exact h
  case rd1 =>
    exact h.advance hph (q := .rd2) rfl (by decide) rfl (fun _ hfit => hfit.select_rd2) (countersFit_of_not rfl nofun)
  case rd2 =>
    exact h.advance hph (q := .rd3) rfl (by decide) rfl (fun _ hfit => hfit.load_rd3) (countersFit_of_not rfl nofun)
  case rd3 =>
    exact h.advance hph (q := .rd4) rfl (by decide) rfl (fun _ hfit => hfit.loaded_rd4) (countersFit_of_not rfl nofun)
  case rd4 => exact inv_readPhase h hph
  case rd5 =>
    exact h.advance hph (q := .idle) rfl (by decide) rfl (fun _ hfit => hfit.deselect_idle) (countersFit_of_not rfl nofun)
  case wr1 =>
    exact h.advance hph (q := .wr2) rfl (by decide) rfl (fun _ hfit => hfit.strobe_low rfl rfl rfl)
      (countersFit_of_cleared rfl nofun)
  case wr2 => exact inv_writePhase h (by rw [hph]; rfl)
  case wr3 =>
    exact h.advance hph (q := .idle) rfl (by decide) (standing_strobeHighAndCheck s)
      (fun _ hfit => by
        rw [finishWrite, complete_lines, strobeHighAndCheck_lines]
        exact hfit.strobe_high rfl rfl rfl rfl)
      (countersFit_of_not rfl nofun)
  case in1 => exact inv_linesReset h hph
  case in2 => exact inv_openPhase h hph
  case in3 =>
    exact h.advance hph (q := .in4) rfl (by decide) rfl (fun _ hfit => hfit.strobe_low rfl rfl rfl)
      (countersFit_of_cleared rfl nofun)
  case in4 => exact inv_writePhase h (by rw [hph]; rfl)
  case in5 =>
    exact h.advance hph (q := .in6) rfl (by decide) (standing_strobeHighAndCheck s)
      (fun _ hfit => by
        rw [setPh_lines, strobeHighAndCheck_lines]
        exact hfit.strobe_high rfl rfl rfl rfl)
      (countersFit_of_not rfl nofun)
  case in6 =>
    exact h.advance hph (q := .in7) rfl (by decide) rfl (fun _ hfit => hfit.keep nofun nofun rfl)
      (countersFit_of_not rfl nofun)
  case in7 =>
    exact h.advance hph (q := .in8) rfl (by decide) rfl (fun _ hfit => hfit.strobe_low rfl rfl rfl)
      (countersFit_of_cleared rfl nofun)
  case in8 => exact inv_writePhase h (by rw [hph]; rfl)
  case in9 => exact inv_succeedInit h hph

/-! ### The finer levels -/

/-- A part of a frame comes in while RD4 waits: the counters are looked at when the read ends. -/
theorem inv_rx {s : State} (h : Inv s) (hwait : awaitsRead s = true) (e : TraceEvent) (rx : Rx) :
    Inv (emit e { s with rx := rx }) := by
  have hph : s.ph = .rd4 := by
    simp only [awaitsRead, Bool.and_eq_true, beq_iff_eq] at hwait
    exact hwait.1
  exact h.advance hph (q := .rd4) hph (by decide) rfl (fun _ => id)
    (countersFit_of_not (by rw [emit_ph, hph]; rfl) (by rw [emit_ph, hph]; nofun))

theorem inv_rxByte (x : Byte) {s : State} (h : Inv s) : Inv (rxByte x s) := by
  rw [rxByte]
  split
  case isTrue hwait => exact inv_rx h hwait _ _
  case isFalse => exact h

theorem inv_rxBit (v : Bool) {s : State} (h : Inv s) : Inv (rxBit v s) := by
  rw [rxBit]
  split
  case isTrue hwait => exact inv_rx h hwait _ _
  case isFalse => exact h

/-- Three whole bytes go on to the commit, anything else is the link fault (41_switch_read.md R108, R109). -/
theorem inv_rxEnd {s : State} (h : Inv s) : Inv (rxEnd s) := by
  simp only [rxEnd]
  split
  case isFalse => exact h
  case isTrue hph =>
    split
    case isTrue hwhole =>
      exact h.advance hph (q := .rd5) rfl (by decide) rfl (fun _ hfit => hfit.keep id id rfl) ⟨nofun, fun _ => hwhole⟩
    case isFalse => exact inv_raiseLinkFault _ h.initOk_open

/-- A byte is on offer only in a write phase. -/
theorem writing_of_offeredByte {s : State} {x : Byte} (h : offeredByte s = some x) : writing s.ph = true := by
  rw [offeredByte] at h
  split at h
  case isTrue hphase =>
    rw [writing_eq_isSome]
    exact (Bool.and_eq_true_iff.1 hphase).1
  case isFalse => cases h

/-- The serialiser moves and no byte is counted. -/
theorem inv_serialise {s : State} (h : Inv s) (e : TraceEvent) (sh : Byte) (bitc : BitVec 3) :
    Inv (emit e { s with tx := { s.tx with shift := sh, bitc := bitc } }) :=
  h.congr rfl rfl rfl rfl rfl

theorem inv_txByte {s : State} (h : Inv s) : Inv (txByte s) := by
  rw [txByte]
  split
  case h_1 x hoffer => exact inv_byteTaken (inv_serialise h _ _ _) (writing_of_offeredByte hoffer)
  case h_2 => exact h

theorem inv_txBit {s : State} (h : Inv s) : Inv (txBit s) := by
  rw [txBit]
  split
  case h_1 x hoffer =>
    dsimp only
    split
    · exact inv_byteTaken (inv_serialise h _ _ _) (writing_of_offeredByte hoffer)
    · exact inv_serialise h _ _ _
  case h_2 => exact h

theorem inv_txEnd {s : State} (h : Inv s) : Inv (txEnd s) := by
  rw [txEnd]
  split
  · have hend : Inv (emit .txEnd s) := h.congr rfl rfl rfl rfl rfl
    exact inv_endWrite hend _
  · exact h

/-! ### The operations -/

/-- A `Start` that is not accepted changes nothing (30_encoding.md R66). -/
theorem inv_ifAccepted {body : State → State} {s : State} (h : Inv s) (hbody : s.ph = .idle → Inv (body s)) :
    Inv (ifAccepted body s) := by
  rcases eq_or_ne s.ph .idle with hph | hph
  · rw [ifAccepted_idle body hph]
    exact hbody hph
  · rwa [ifAccepted_ignored body hph]

/-- A `Start` run phase by phase enters its first phase; INIT clears `init_ok` (43_init.md R140). -/
theorem inv_acceptStart (op : OpCode) (st d : Byte) (b : Word16) {s : State} (h : Inv s) (hph : s.ph = .idle) :
    Inv (acceptStart op st d b s) := by
  obtain ⟨hfault, hcause, hdevice, hlines⟩ := h.idle hph
  cases op with
  | nop => exact IdleInv.inv ⟨hfault, hcause, hdevice, hlines⟩ rfl
  | init =>
    simp only [acceptStart]
    constructor <;> simp [hfault, hcause, linesAreReset, deviceIsOpen, selecting, strobing, writing]
  | rdsw =>
    exact h.advance hph (q := .rd1) rfl (by decide) rfl (fun _ hfit => hfit.keep nofun nofun rfl)
      (countersFit_of_not rfl nofun)
  | wrled =>
    exact h.advance hph (q := .wr1) rfl (by decide) rfl (fun _ hfit => hfit.keep nofun nofun rfl)
      (countersFit_of_not rfl nofun)

/-- The lines of a switch read and of a write end where they were safe before. -/
theorem inv_readSwitches {s : State} (h : Inv s) (hph : s.ph = .idle) : Inv (readSwitches s) := by
  obtain ⟨hfault, hcause, hdevice, hlines⟩ := h.idle hph
  rcases eq_or_ne (readAnswer s).cnt 3 with hcnt | hcnt
  · rw [readSwitches_three hcnt, finishRead_eq, linkRead_selectAndLoad_eq]
    refine IdleInv.inv ⟨hfault, hcause, hdevice, fun hinit => ?_⟩ rfl
    simp only [storeFrame, hlines hinit]
    rfl
  · rw [readSwitches_fault hcnt]
    exact inv_raiseLinkFault _ hdevice

theorem inv_writeStatus (st d : Byte) (b : Word16) {s : State} (h : Inv s) (hph : s.ph = .idle) :
    Inv (writeStatus st d b s) := by
  obtain ⟨hfault, hcause, hdevice, hlines⟩ := h.idle hph
  rw [writeStatus, writeBody_eq]
  refine IdleInv.inv ⟨hfault, hcause, hdevice, fun hinit => ?_⟩ rfl
  simp only [complete_lines, hlines hinit]
  rfl

theorem inv_initializeHardware {s : State} (h : Inv s) (hph : s.ph = .idle) : Inv (initializeHardware s) := by
  obtain ⟨hfault, hcause, -, -⟩ := h.idle hph
  cases hopen : openAnswer Config.serialCfg s with
  | true =>
    rw [initializeHardware_opened_eq hopen]
    exact IdleInv.inv ⟨hfault, hcause, fun _ => rfl, fun _ => rfl⟩ rfl
  | false =>
    rw [initializeHardware_notOpened_eq hopen]
    exact IdleInv.inv ⟨hfault, hcause, nofun, nofun⟩ rfl

theorem inv_opBody (op : OpCode) (st d : Byte) (b : Word16) {s : State} (h : Inv s) (hph : s.ph = .idle) :
    Inv (opBody op st d b s) := by
  cases op with
  | nop => exact inv_acceptStart .nop st d b h hph
  | init => exact inv_initializeHardware h hph
  | rdsw => exact inv_readSwitches h hph
  | wrled => exact inv_writeStatus st d b h hph

/-- The Host's compare writes the Host's values alone (60_exceptions.md R171). -/
theorem inv_poll {s : State} (h : Inv s) : Inv (poll s) := by
  have hread : Inv (ifAccepted readSwitches s) := inv_ifAccepted h (inv_readSwitches h)
  rw [poll]
  split
  · exact hread.congr rfl rfl rfl rfl rfl
  · exact hread

theorem inv_applyReset (s : State) : Inv (applyReset s) :=
  IdleInv.inv ⟨rfl, rfl, nofun, nofun⟩ rfl

theorem inv_applyEvent {e : Event} {s t : State} (h : Inv s) (he : applyEvent e s = .inr t) : Inv t := by
  cases e with
  | start r => cases he
  | startFine op st d b => cases he; exact inv_ifAccepted h (inv_acceptStart op st d b h)
  | tick => cases he; exact inv_tick h
  | rxByte x => cases he; exact inv_rxByte x h
  | rxBit v => cases he; exact inv_rxBit v h
  | rxEnd => cases he; exact inv_rxEnd h
  | txByte => cases he; exact inv_txByte h
  | txBit => cases he; exact inv_txBit h
  | txEnd => cases he; exact inv_txEnd h
  | poll => cases he; exact inv_poll h
  | rst => cases he; exact inv_applyReset s

/-! ### The obligation -/

/-- Settles O36: each event keeps the invariant, an operation under way by what one phase hands to the next. -/
theorem everyStepKeepsTheInvariant : Obligations.EveryStepKeepsTheInvariant := by
  intro s t h hstep
  obtain ⟨rest, heffect⟩ := step_effect hstep
  have hs : Inv { s with events := rest } := h.congr rfl rfl rfl rfl rfl
  cases heffect with
  | observed v _ => exact hs.congr rfl rfl rfl rfl rfl
  | issued op st d b _ => exact inv_ifAccepted hs (inv_opBody op st d b hs)
  | applied he => exact inv_applyEvent hs he

end Sys2Proof.Machine
end

section
/-! The link fault and the Host: a halted block, the end of a read at the finer levels, RDSW without a device, and the poll. -/

namespace Sys2Proof.Machine

/-! ### A halted block (60_exceptions.md R159, 70_reset_and_hazards.md R190) -/

/-- No event but a reset does anything in HALT: the block takes no request, no phase and no part of a transfer. -/
theorem applyEvent_halt {e : Event} {s t : State} (hph : s.ph = .halt) (he : e ≠ .rst) (h : applyEvent e s = .inr t) :
    t = s := by
  have hbusy : s.ph ≠ .idle := by rw [hph]; nofun
  have hwrite : afterWrite s.ph = none := by rw [hph]; rfl
  have hread : awaitsRead s = false := by rw [awaitsRead, hph]; rfl
  have hoffer : offeredByte s = none := by rw [offeredByte, hwrite]; rfl
  cases e with
  | start r => cases h
  | startFine op st d b => cases h; exact ifAccepted_ignored _ hbusy
  | tick => cases h; exact ticks_halt 1 hph
  | rxByte x => cases h; simp [rxByte, hread]
  | rxBit v => cases h; simp [rxBit, hread]
  | rxEnd => cases h; simp [rxEnd, hph]
  | txByte => cases h; simp [txByte, hoffer]
  | txBit => cases h; simp [txBit, hoffer]
  | txEnd => cases h; exact txEnd_other hwrite
  | poll => cases h; simp [poll, hph, ifAccepted_ignored readSwitches hbusy]
  | rst => exact absurd rfl he

/-- A step in HALT takes its event, shows an observer what he asks for, and changes nothing else. -/
theorem step_halt {s t : State} (hph : s.ph = .halt) (he : headEvent s ≠ .rst) (h : step s = .next t) :
    ∃ observed rest, t = { s with observed := observed, events := rest } := by
  obtain ⟨rest, heffect⟩ := step_effect h
  cases heffect with
  | observed v _ => exact ⟨_, rest, rfl⟩
  | issued op st d b _ =>
    exact ⟨s.observed, rest, ifAccepted_ignored (s := { s with events := rest }) _ (by rw [hph]; nofun)⟩
  | applied happlied => exact ⟨s.observed, rest, applyEvent_halt (s := { s with events := rest }) hph he happlied⟩

/-! ### The poll -/

/-- LastCommand is `cmd` after the compare, whether it was before or not (R171). -/
theorem dispatch_eq (addr : Word16) (cmd : Byte) (d : Dispatcher) :
    dispatch addr cmd d = ⟨cmd, addr, d.callbacks ++ (if cmd = d.lastCommand then [] else [cmd])⟩ := by
  rw [dispatch]
  split
  · next h => simp [h]
  · rfl

/-- A poll whose read has count 3 hands the committed pair to the Host's compare (60_exceptions.md R171, R172). -/
theorem poll_three {s : State} {b0 b1 b2 : Byte} (hph : s.ph = .idle) (hopen : s.linkOpen = true)
    (hread : nextRead s = ⟨3, b0, b1, b2⟩) :
    (poll s).ph = .idle ∧ (poll s).dispatcher = dispatch (decode16 (b1 ++ b0)) b2 s.dispatcher := by
  have hanswer : readAnswer s = ⟨3, b0, b1, b2⟩ := (readAnswer_open hopen).trans hread
  have hcnt : (readAnswer s).cnt = 3 := congrArg ReadAnswer.cnt hanswer
  have hcommit := readSwitches_three hcnt
  rw [finishRead_eq, linkRead_selectAndLoad_eq, hanswer] at hcommit
  rw [poll, ifAccepted_idle readSwitches hph, hcommit, if_pos ⟨hph, rfl⟩]
  exact ⟨rfl, rfl⟩

/-- A poll whose read ends in the link fault does not complete (R173). -/
theorem poll_fault {s : State} (hph : s.ph = .idle) (hcnt : (readAnswer s).cnt ≠ 3) :
    (poll s).ph = .halt ∧ (poll s).fault = true ∧ (poll s).dispatcher = s.dispatcher := by
  rw [poll, ifAccepted_idle readSwitches hph, readSwitches_fault hcnt, if_neg fun h => Phase.noConfusion h.2]
  exact ⟨rfl, rfl, rfl⟩

/-! ### The obligations -/

/-- Settles O24: the count with the device not open is 0, which is not 3. -/
theorem rdswWithoutDeviceFaultsWithCountZero : Obligations.RdswWithoutDeviceFaultsWithCountZero := by
  intro s hph hclosed
  have hanswer : readAnswer s = ⟨0, 0, 0, 0⟩ := readAnswer_closed hclosed
  have hcnt : (readAnswer s).cnt ≠ 3 := by rw [hanswer]; decide
  refine ⟨readSwitches s, exec_rdsw_idle hph, ?_⟩
  rw [readSwitches_fault hcnt, linkRead_selectAndLoad_eq, linkAfterRead_closed hclosed, hanswer]
  exact ⟨rfl, rfl, rfl, rfl, rfl⟩

/-- Settles O37: a step in HALT changes the lists of observations and of events alone. -/
theorem haltIsLeftByResetOnly : Obligations.HaltIsLeftByResetOnly := by
  intro s t hph he h
  obtain ⟨observed, rest, rfl⟩ := step_halt hph he h
  exact ⟨hph, rfl, rfl, rfl, rfl, rfl, rfl, rfl, rfl⟩

/-- Settles O47: the two branches of the end of a read. -/
theorem rxEndAcceptsExactlyThreeWholeBytes : Obligations.RxEndAcceptsExactlyThreeWholeBytes := by
  intro s hph
  refine ⟨fun hwhole => ?_, fun hpart => ⟨rxAfterFault s, s.draws + drawsPerUse, ?_⟩⟩
  · rw [rxEnd, if_pos hph]
    exact if_pos hwhole
  · rw [rxEnd, if_pos hph]
    exact if_neg hpart

/-- Settles O52: the poll is the switch read and the compare of its result, which a link fault leaves out. -/
theorem pollFiresOnAChangeOfCommand : Obligations.PollFiresOnAChangeOfCommand := by
  intro s rest hevents hph
  have hnext : nextEvent s = (.poll, { s with events := rest }) := by rw [nextEvent, hevents]
  refine ⟨poll { s with events := rest }, step_other (by rw [hnext]; rfl), fun b0 b1 b2 hopen hread => ?_,
    poll_fault (s := { s with events := rest }) hph⟩
  obtain ⟨hend, hhost⟩ := poll_three (s := { s with events := rest }) hph hopen hread
  rw [dispatch_eq] at hhost
  rw [hhost]
  exact ⟨hend, rfl, rfl, rfl⟩

end Sys2Proof.Machine
end

section
/-! Runs: the operations accepted so far, what each step adds to them, and how a run ends. -/

namespace Sys2Proof.Machine

/-! ### The operations accepted so far -/

/-- The operations that have produced their `Done`, then the one that has not (30_encoding.md R66, R67). -/
def acceptedOps (s : State) : List OpCode := s.results.map Done.op ++ withoutDone s.ph

@[simp] theorem withoutDone_idle : withoutDone .idle = [] := rfl

/-- An operation under way stays under way. -/
theorem acceptedOps_underway {s t : State} (hresults : t.results = s.results)
    (hph : withoutDone t.ph = withoutDone s.ph) : acceptedOps t = acceptedOps s := by
  rw [acceptedOps, acceptedOps, hresults, hph]

/-- The operation under way produces its `Done`. -/
theorem acceptedOps_done {s t : State} {d : Done} (hresults : t.results = s.results ++ [d]) (hph : t.ph = .idle)
    (hop : withoutDone s.ph = [d.op]) : acceptedOps t = acceptedOps s := by
  simp [acceptedOps, hresults, hph, hop]

/-- An idle block accepts an operation that is then under way, or in HALT. -/
theorem acceptedOps_started {s t : State} {op : OpCode} (hidle : s.ph = .idle) (hresults : t.results = s.results)
    (hph : withoutDone t.ph = [op]) : acceptedOps t = acceptedOps s ++ [op] := by
  simp [acceptedOps, hresults, hph, hidle]

/-- An idle block accepts an operation and completes it. -/
theorem acceptedOps_completed {s t : State} {d : Done} (hidle : s.ph = .idle) (hresults : t.results = s.results ++ [d])
    (hph : t.ph = .idle) : acceptedOps t = acceptedOps s ++ [d.op] := by
  simp [acceptedOps, hresults, hph, hidle]

/-! ### An operation that is issued -/

theorem acceptedOps_acceptStart (op : OpCode) (st d : Byte) (b : Word16) {s : State} (h : s.ph = .idle) :
    acceptedOps (acceptStart op st d b s) = acceptedOps s ++ [op] := by
  cases op with
  | nop => exact acceptedOps_completed (d := .nop) h rfl rfl
  | init => exact acceptedOps_started h rfl rfl
  | rdsw => exact acceptedOps_started h rfl rfl
  | wrled => exact acceptedOps_started h rfl rfl

/-- A switch read completes or is left without its `Done` by the link fault (60_exceptions.md R159). -/
theorem acceptedOps_readSwitches {s : State} (h : s.ph = .idle) :
    acceptedOps (readSwitches s) = acceptedOps s ++ [.rdsw] := by
  rcases eq_or_ne (readAnswer s).cnt 3 with hcnt | hcnt
  · rw [readSwitches_three hcnt, finishRead_eq]
    exact acceptedOps_completed (d := .rdsw _ _) h rfl rfl
  · rw [readSwitches_fault hcnt]
    exact acceptedOps_started h rfl rfl

theorem acceptedOps_initializeHardware {s : State} (h : s.ph = .idle) :
    acceptedOps (initializeHardware s) = acceptedOps s ++ [.init] := by
  cases hopen : openAnswer Config.serialCfg s with
  | true =>
    rw [initializeHardware_opened_eq hopen]
    exact acceptedOps_completed (d := .init true) h rfl rfl
  | false =>
    rw [initializeHardware_notOpened_eq hopen]
    exact acceptedOps_completed (d := .init false) h rfl rfl

theorem acceptedOps_writeStatus (st d : Byte) (b : Word16) {s : State} (h : s.ph = .idle) :
    acceptedOps (writeStatus st d b s) = acceptedOps s ++ [.wrled] := by
  rw [writeStatus, writeBody_eq]
  exact acceptedOps_completed (d := .wrled _) h rfl rfl

theorem acceptedOps_opBody (op : OpCode) (st d : Byte) (b : Word16) {s : State} (h : s.ph = .idle) :
    acceptedOps (opBody op st d b s) = acceptedOps s ++ [op] := by
  cases op with
  | nop => exact acceptedOps_completed (d := .nop) h rfl rfl
  | init => exact acceptedOps_initializeHardware h
  | rdsw => exact acceptedOps_readSwitches h
  | wrled => exact acceptedOps_writeStatus st d b h

/-- The Host's compare is no part of the block. -/
theorem acceptedOps_poll {s : State} (h : s.ph = .idle) : acceptedOps (poll s) = acceptedOps s ++ [.rdsw] := by
  rw [poll, ifAccepted_idle readSwitches h]
  split <;> exact acceptedOps_readSwitches h

/-! ### An operation under way -/

theorem strobeHighAndCheck_results (s : State) : (strobeHighAndCheck s).results = s.results := by
  obtain ⟨_, _, hframe⟩ := strobeHighAndCheck_frame s
  rw [hframe]
  rfl

/-- A write phase belongs to the same operation as the phase after it. -/
theorem acceptedOps_leaveWrite {s t : State} (hafter : afterWrite s.ph = some t.ph) (hresults : t.results = s.results) :
    acceptedOps t = acceptedOps s := by
  refine acceptedOps_underway hresults ?_
  rcases afterWrite_cases hafter with ⟨hp, hq⟩ | ⟨hp, hq⟩ | ⟨hp, hq⟩
  all_goals rw [hp, hq]; rfl

theorem acceptedOps_writePhase {s : State} {q : Phase} (hafter : afterWrite s.ph = some q) :
    acceptedOps (writePhase q s) = acceptedOps s := by
  rw [writePhase]
  split
  · rfl
  · exact acceptedOps_leaveWrite hafter rfl

theorem acceptedOps_readPhase {s : State} (hph : s.ph = .rd4) : acceptedOps (readPhase s) = acceptedOps s := by
  have hread : withoutDone s.ph = [.rdsw] := by rw [hph]; rfl
  rw [readPhase]
  split
  · rfl
  · rcases eq_or_ne (readAnswer s).cnt 3 with hcnt | hcnt
    · rw [acceptRead_three _ _ hcnt]
      exact acceptedOps_underway rfl hread.symm
    · rw [acceptRead_fault _ _ hcnt]
      exact acceptedOps_underway rfl hread.symm

theorem acceptedOps_openPhase {s : State} (hph : s.ph = .in2) : acceptedOps (openPhase s) = acceptedOps s := by
  have hinit : withoutDone s.ph = [.init] := by rw [hph]; rfl
  rw [openPhase]
  split
  · exact acceptedOps_underway rfl hinit.symm
  · exact acceptedOps_done (d := .init false) rfl rfl hinit

/-- A phase goes on with its operation or ends it with the `Done` of that operation. -/
theorem acceptedOps_tick (s : State) : acceptedOps (tick s) = acceptedOps s := by
  cases hph : s.ph
  all_goals
    have hop := congrArg withoutDone hph
    simp only [tick, hph]
  case rd4 => exact acceptedOps_readPhase hph
  case rd5 => exact acceptedOps_done (d := .rdsw _ _) rfl rfl hop
  case wr2 => exact acceptedOps_writePhase (by rw [hph]; rfl)
  case wr3 => exact acceptedOps_done (d := .wrled _) (congrArg (· ++ [_]) (strobeHighAndCheck_results s)) rfl hop
  case in2 => exact acceptedOps_openPhase hph
  case in4 => exact acceptedOps_writePhase (by rw [hph]; rfl)
  case in5 => exact acceptedOps_underway (strobeHighAndCheck_results s) hop.symm
  case in8 => exact acceptedOps_writePhase (by rw [hph]; rfl)
  case in9 => exact acceptedOps_done (d := .init true) (congrArg (· ++ [_]) (strobeHighAndCheck_results s)) rfl hop
  all_goals exact acceptedOps_underway rfl hop.symm

theorem acceptedOps_rxByte (x : Byte) (s : State) : acceptedOps (rxByte x s) = acceptedOps s := by
  rw [rxByte]
  split <;> rfl

theorem acceptedOps_rxBit (v : Bool) (s : State) : acceptedOps (rxBit v s) = acceptedOps s := by
  rw [rxBit]
  split <;> rfl

/-- The end of a read belongs to its RDSW, in RD5 as in HALT. -/
theorem acceptedOps_rxEnd (s : State) : acceptedOps (rxEnd s) = acceptedOps s := by
  rw [rxEnd]
  split
  case isFalse => rfl
  case isTrue hph =>
    have hread : withoutDone s.ph = [.rdsw] := by rw [hph]; rfl
    dsimp only
    split <;> exact acceptedOps_underway rfl hread.symm

theorem acceptedOps_endWrite (cnt : Int) (s : State) : acceptedOps (endWrite cnt s) = acceptedOps s := by
  cases hafter : afterWrite s.ph with
  | none => rw [endWrite_other cnt hafter]
  | some q =>
    rw [endWrite_writing cnt hafter]
    exact acceptedOps_leaveWrite hafter rfl

theorem acceptedOps_byteTaken (s : State) : acceptedOps (byteTaken s) = acceptedOps s := by
  rcases eq_or_ne ((countByte s.tx.bytec).val : Int) (ledFrameCount s) with hlast | hmore
  · rw [byteTaken_last hlast, acceptedOps_endWrite]
    rfl
  · rw [byteTaken_more hmore]
    rfl

theorem acceptedOps_txByte (s : State) : acceptedOps (txByte s) = acceptedOps s := by
  rw [txByte]
  split
  · rw [acceptedOps_byteTaken]
    rfl
  · rfl

theorem acceptedOps_txBit (s : State) : acceptedOps (txBit s) = acceptedOps s := by
  rw [txBit]
  split
  · dsimp only
    split
    · rw [acceptedOps_byteTaken]
      rfl
    · rfl
  · rfl

theorem acceptedOps_txEnd (s : State) : acceptedOps (txEnd s) = acceptedOps s := by
  rw [txEnd]
  split
  · rw [acceptedOps_endWrite]
    rfl
  · rfl

/-! ### The step -/

/-- A Host under R189 issues an operation to an idle block only. -/
theorem idle_of_disciplined {s : State} {op : OpCode} (hd : disciplined s = true)
    (hop : eventOp (headEvent s) = some op) : s.ph = .idle := by
  rw [disciplined] at hd
  cases he : headEvent s with
  | start r => simpa [he] using hd
  | startFine op st d b => simpa [he] using hd
  | poll => simpa [he] using hd
  | _ => simp [he, eventOp] at hop

theorem acceptedOps_applyEvent {e : Event} {s t : State} (hidle : ∀ op, eventOp e = some op → s.ph = .idle)
    (he : e ≠ .rst) (h : applyEvent e s = .inr t) : acceptedOps t = acceptedOps s ++ (eventOp e).toList := by
  cases e with
  | start r => cases h
  | startFine op st d b =>
    cases h
    have hph : s.ph = .idle := hidle op rfl
    rw [ifAccepted_idle _ hph]
    exact acceptedOps_acceptStart op st d b hph
  | poll => cases h; exact acceptedOps_poll (hidle .rdsw rfl)
  | tick => cases h; simp [acceptedOps_tick, eventOp]
  | rxByte x => cases h; simp [acceptedOps_rxByte, eventOp]
  | rxBit v => cases h; simp [acceptedOps_rxBit, eventOp]
  | rxEnd => cases h; simp [acceptedOps_rxEnd, eventOp]
  | txByte => cases h; simp [acceptedOps_txByte, eventOp]
  | txBit => cases h; simp [acceptedOps_txBit, eventOp]
  | txEnd => cases h; simp [acceptedOps_txEnd, eventOp]
  | rst => exact absurd rfl he

/-- Over a step of a Host under R189 the accepted operations gain the one that the step issues (R66, R189). -/
theorem acceptedOps_step {s t : State} (hd : disciplined s = true) (he : headEvent s ≠ .rst) (h : step s = .next t) :
    acceptedOps t = acceptedOps s ++ (eventOp (headEvent s)).toList := by
  obtain ⟨rest, heffect⟩ := step_effect h
  cases heffect with
  | observed v hop =>
    rw [hop]
    exact (List.append_nil _).symm
  | issued op st d b hop =>
    have hph : s.ph = .idle := idle_of_disciplined hd hop
    rw [hop, ifAccepted_idle (s := { s with events := rest }) _ hph]
    exact acceptedOps_opBody (s := { s with events := rest }) op st d b hph
  | applied happlied =>
    exact acceptedOps_applyEvent (s := { s with events := rest }) (fun _ => idle_of_disciplined hd) he happlied

/-! ### Runs (70_reset_and_hazards.md R199) -/

/-- No operation has been accepted right after a reset. -/
theorem acceptedOps_of_reset {s : State} (h : applyReset s = s) : acceptedOps s = [] := by
  rw [← h]
  rfl

/-- The operations of a run are the accepted ones. -/
theorem Run.ops_eq {s0 t : State} {ops : List OpCode} (h : Run s0 t ops) : ops = acceptedOps t := by
  induction h with
  | start hreset => exact (acceptedOps_of_reset hreset).symm
  | next _ hd he hstep ih => rw [acceptedOps_step hd he hstep, ih]

/-- Settles O57: the operations of a run are the accepted ones, and in IDLE none of these is without its `Done`. -/
theorem runsEndWellOrHaveAnOperationWithoutDone : Obligations.RunsEndWellOrHaveAnOperationWithoutDone := by
  intro s0 t ops hrun
  have hops : ops = t.results.map Done.op ++ withoutDone t.ph := hrun.ops_eq
  refine ⟨hops, fun hsome hnone => ⟨EndsWell.at_rest, fun hrest => ?_⟩, fun hbad => ⟨fun hwell => ?_, ?_⟩⟩
  · have hdone : t.results.map Done.op = ops := by rw [hops, hrest.1, withoutDone_idle, List.append_nil]
    exact ⟨hrun, hsome, hdone, hnone, hrest⟩
  · exact Phase.noConfusion (hbad.symm.trans hwell.at_rest.1)
  · rw [hops, hbad, withoutDone]

end Sys2Proof.Machine
end

section
/-! Reset and hazards: what keeps a machine ready, and the run of one operation right after a reset. -/

namespace Sys2Proof.Machine

/-! ### An operation that an idle block accepts -/

/-- A row that is an operation is the row of a `Start` with some operands (30_encoding.md R66). -/
theorem eq_instr_of_instrOp {i : Instr} {op : OpCode} (h : instrOp i = some op) : ∃ st d b, i = op.instr st d b := by
  cases i
  case wrled st d b => cases h; exact ⟨st, d, b, rfl⟩
  case nop | init | rdsw => cases h; exact ⟨0, 0, 0, rfl⟩
  all_goals cases h

/-- An idle block accepts every operation (R66). -/
theorem exec_instr_idle (op : OpCode) (st d : Byte) (b : Word16) {s : State} (h : s.ph = .idle) :
    exec (op.instr st d b) s = .next (opBody op st d b s) := by
  cases op with
  | nop => exact congrArg Host.Outcome.next (ifAccepted_idle (complete .nop) h)
  | init => exact exec_init_idle h
  | rdsw => exact exec_rdsw_idle h
  | wrled => exact exec_wrled_idle st d b h

/-- A switch read ends in HALT on any count but 3 (41_switch_read.md R102). -/
theorem endsBadly_readSwitches {s : State} (h : (readAnswer s).cnt ≠ 3) : EndsBadly (readSwitches s) := by
  rw [readSwitches_fault h]
  rfl

/-- Every operation but RDSW comes to rest whatever the Link answers (60_exceptions.md R162). -/
theorem atRest_opBody {op : OpCode} (hop : op ≠ .rdsw) (st d : Byte) (b : Word16) {s : State} (h : AtRest s) :
    AtRest (opBody op st d b s) := by
  obtain ⟨-, hfault⟩ := h
  cases op with
  | nop => exact ⟨rfl, hfault⟩
  | init => exact ⟨initializeHardware_ph s, (congrArg Prod.fst (faultFlags_initializeHardware s)).trans hfault⟩
  | rdsw => exact absurd rfl hop
  | wrled => exact ⟨rfl, (congrArg Prod.fst (faultFlags_writeBody st d b s)).trans hfault⟩

/-- A step on the `Start` of an operation that an idle block accepts is that operation's body (log entry 13). -/
theorem step_start_idle {s : State} {op : OpCode} {st d : Byte} {b : Word16} {rest : List Event} (hph : s.ph = .idle)
    (hevents : s.events = .start (encode (op.instr st d b)) :: rest) :
    step s = .next (opBody op st d b { s with events := rest }) :=
  (step_start hevents (decodeOfEncodeIsTheInstruction _)).trans (exec_instr_idle (s := { s with events := rest }) op st d b hph)

/-! ### No operation issues another -/

theorem readSwitches_events (s : State) : (readSwitches s).events = s.events := by
  rcases eq_or_ne (readAnswer s).cnt 3 with hcnt | hcnt
  · rw [readSwitches_three hcnt, finishRead_eq, linkRead_selectAndLoad_eq, storeFrame_events]
  · rw [readSwitches_fault hcnt, linkRead_selectAndLoad_eq, raiseLinkFault_events]

theorem initializeHardware_events (s : State) : (initializeHardware s).events = s.events := by
  cases hopen : openAnswer Config.serialCfg s with
  | true => rw [initializeHardware_opened_eq hopen]
  | false => rw [initializeHardware_notOpened_eq hopen]

/-- An operation leaves what is still to come as it is (log entry 13). -/
theorem opBody_events (op : OpCode) (st d : Byte) (b : Word16) (s : State) :
    (opBody op st d b s).events = s.events := by
  cases op with
  | nop => rfl
  | init => exact initializeHardware_events s
  | rdsw => exact readSwitches_events s
  | wrled => rw [opBody, writeStatus, writeBody_eq, complete_events]

/-! ### A ready machine (70_reset_and_hazards.md R187) -/

/-- A machine stays ready where it is idle with its flags as before and the lines at their safe levels. -/
theorem ready_of_standing {s t : State} (h : Ready s) (hph : t.ph = .idle) (hflags : standing t = standing s)
    (hlines : t.lines = safeLines s.params) : Ready t := by
  obtain ⟨-, hfault, hinit, hopen, -⟩ := h
  simp only [standing, Prod.mk.injEq] at hflags
  obtain ⟨hfault', -, hinit', hopen', hparams⟩ := hflags
  exact ⟨hph, hfault'.trans hfault, hinit'.trans hinit, hopen'.trans hopen, by rw [hlines, hparams]⟩

theorem ready_complete (d : Done) {s : State} (h : Ready s) : Ready (complete d s) := by
  have ⟨_, _, _, _, hlines⟩ := h
  exact ready_of_standing h rfl rfl hlines

/-- The store strobe is back at its safe level after a write, whatever the Link took (42_led_write.md R122). -/
theorem ready_writeStatus (st d : Byte) (b : Word16) {s : State} (h : Ready s) : Ready (writeStatus st d b s) := by
  have ⟨_, _, _, _, hlines⟩ := h
  rw [writeStatus, writeBody_eq]
  refine ready_of_standing h rfl rfl ?_
  simp only [complete_lines, hlines]
  rfl

/-- Both switch lines are back at their safe levels after a read of count 3 (41_switch_read.md R103). -/
theorem ready_readSwitches {s : State} (h : Ready s) (hcnt : (readAnswer s).cnt = 3) :
    Ready (readSwitches s) ∧ (readSwitches s).frameValid = true := by
  have ⟨_, _, _, _, hlines⟩ := h
  rw [readSwitches_three hcnt, finishRead_eq, linkRead_selectAndLoad_eq]
  refine ⟨ready_of_standing h rfl rfl ?_, rfl⟩
  simp only [storeFrame, hlines]
  rfl

/-- INIT on a device that opens makes any machine at rest ready (43_init.md R145). -/
theorem ready_initializeHardware {s : State} (h : AtRest s) (hopen : openAnswer Config.serialCfg s = true) :
    Ready (initializeHardware s) := by
  obtain ⟨-, hfault⟩ := h
  rw [initializeHardware_opened_eq hopen]
  exact ⟨rfl, hfault, rfl, rfl, rfl⟩

/-! ### The first step after a reset -/

/-- No device is open right after a reset, and the machine is at rest (R185). -/
theorem atRest_closed_of_reset {s : State} (h : applyReset s = s) : AtRest s ∧ s.linkOpen = false := by
  rw [← h]
  exact ⟨⟨rfl, rfl⟩, rfl⟩

theorem headEvent_of_events {s : State} {e : Event} {rest : List Event} (h : s.events = e :: rest) : headEvent s = e := by
  simp only [headEvent, nextEvent, h]

/-- The first operation right after a reset is a run of that operation alone (R199). -/
theorem run_of_first_operation {s0 t : State} {i : Instr} {op : OpCode} {rest : List Event} (hreset : applyReset s0 = s0)
    (hevents : s0.events = .start (encode i) :: rest) (hop : instrOp i = some op) (hstep : step s0 = .next t) :
    Run s0 t [op] := by
  obtain ⟨⟨hidle, -⟩, -⟩ := atRest_closed_of_reset hreset
  have hhead : headEvent s0 = .start (encode i) := headEvent_of_events hevents
  have hissued : eventOp (headEvent s0) = some op := by
    rw [hhead, eventOp_start (decodeOfEncodeIsTheInstruction i), hop]
  have hdisciplined : disciplined s0 = true := by
    rw [disciplined, hhead, hidle]
    rfl
  have hrun := (Run.start hreset).next hdisciplined (by rw [hhead]; nofun) hstep
  rwa [hissued] at hrun

/-! ### The obligations -/

/-- Settles O43: each operation that completes leaves the flags and brings the lines it moved back to their safe levels. -/
theorem operationsKeepTheMachineReady : Obligations.OperationsKeepTheMachineReady := by
  refine ⟨fun s t hrest hopen h => ?_, fun s t hready h => ?_, fun s t st d b hready h => ?_, fun s t hready hcnt h => ?_,
    fun s t hready hcnt h => ?_⟩
  · cases (exec_init_idle hrest.1).symm.trans h
    exact ready_initializeHardware hrest hopen
  all_goals have ⟨hidle, _, _, hopen, _⟩ := hready
  · cases (exec_instr_idle .nop 0 0 0 hidle).symm.trans h
    exact ready_complete .nop hready
  · cases (exec_wrled_idle st d b hidle).symm.trans h
    exact ready_writeStatus st d b hready
  · cases (exec_rdsw_idle hidle).symm.trans h
    exact ready_readSwitches hready (by rwa [readAnswer_open hopen])
  · cases (exec_rdsw_idle hidle).symm.trans h
    exact endsBadly_readSwitches (by rwa [readAnswer_open hopen])

/-- Settles O58: the one step is the operation's body, which leaves nothing to issue; RDSW faults on any count but 3, and
the count is 0 while the device is not open. -/
theorem runOfOneOperationAfterReset : Obligations.RunOfOneOperationAfterReset := by
  intro s0 i op hreset hevents hop
  obtain ⟨st, d, b, rfl⟩ := eq_instr_of_instrOp hop
  obtain ⟨hrest, hclosed⟩ := atRest_closed_of_reset hreset
  let u : State := { s0 with events := [] }
  have hstep : step s0 = .next (opBody op st d b u) := step_start_idle hrest.1 hevents
  have hrun : Run s0 (opBody op st d b u) [op] := run_of_first_operation hreset hevents hop hstep
  refine ⟨opBody op st d b u, hstep, hrun, fun hread => ?_, fun hother => ?_⟩
  · subst hread
    have hcnt : (readAnswer u).cnt ≠ 3 := by
      rw [readAnswer_closed (s := u) hclosed]
      decide
    exact endsBadly_readSwitches hcnt
  · have hnone : NothingPending (opBody op st d b u) := by
      rw [NothingPending, opBody_events]
      exact List.forall_mem_nil _
    obtain ⟨-, hwell, -⟩ := runsEndWellOrHaveAnOperationWithoutDone s0 _ [op] hrun
    exact (hwell (List.cons_ne_nil _ _) hnone).2 (atRest_opBody hother st d b hrest)

end Sys2Proof.Machine
end

section
/-! The decoder and the step: which requests decode, the request of WRLED, and what one step does with each event. -/

namespace Sys2Proof.Machine

/-! ### Which requests decode -/

theorem DecodesTo.wellFormed {r : Request} {i : Instr} (h : DecodesTo r i) : r.wellFormed = true := by
  cases h with
  | start op st d bl bh hop => simpa [Request.wellFormed, Request.lengthOk, Request.paddingOk, Format.size] using hop
  | index x hx => simpa [Request.wellFormed, Request.lengthOk, Request.paddingOk, Format.size] using hx
  | switchFrame | ledFrame | ledFrame3 => rfl

/-- A request of its format's length whose padding is 0 decodes (30_encoding.md R68 to R70; log entry 11). -/
theorem decodesTo_of_wellFormed {r : Request} (h : r.wellFormed = true) : ∃ i, DecodesTo r i := by
  obtain ⟨fmt, bytes⟩ := r
  rw [Request.wellFormed, Bool.and_eq_true, Request.lengthOk, beq_iff_eq] at h
  obtain ⟨hlength, hpadding⟩ := h
  cases fmt with
  | cmd2 =>
    match bytes, hlength with
    | [op, st, d, bl, bh], _ => exact ⟨_, .start op st d bl bh (of_decide_eq_true hpadding)⟩
  | lut4 =>
    match bytes, hlength with
    | [x], _ => exact ⟨_, .index x (of_decide_eq_true hpadding)⟩
  | frame24 =>
    match bytes, hlength with
    | [l, h, c], _ => exact ⟨_, .switchFrame c h l⟩
  | frame32 =>
    match bytes, hlength with
    | [bl, bh, d, st], _ => exact ⟨_, .ledFrame st d bh bl⟩
  | frame24led =>
    match bytes, hlength with
    | [bl, bh, d], _ => exact ⟨_, .ledFrame3 d bh bl⟩

/-- Settles O2: the decoder accepts what `DecodesTo` lists, and that is the well-formed requests. -/
theorem decodeAcceptsExactlyTheWellFormed : Obligations.DecodeAcceptsExactlyTheWellFormed := by
  intro r
  constructor
  · rintro ⟨i, hdec⟩
    exact (decode_eq_ok_iff.1 hdec).wellFormed
  · intro h
    obtain ⟨i, hi⟩ := decodesTo_of_wellFormed h
    exact ⟨i, decode_eq_ok_iff.2 hi⟩

/-! ### The request of a `Start` -/

/-- The container of a `Start`, its bus operand as two bytes (R66, log entry 11). -/
theorem decode_cmd2_bytes (op : OpCode) (st d bl bh : Byte) :
    decode ⟨.cmd2, [op.bits.setWidth 8, st, d, bl, bh]⟩ = .ok (op.instr st d (bh ++ bl)) := by
  have hrequest := decode_cmd2Request op st d (bh ++ bl)
  rwa [cmd2Request, loByte_append, hiByte_append] at hrequest

/-- Settles O4, code by code. -/
theorem startCodesSelectOperations : Obligations.StartCodesSelectOperations := by
  intro st d bl bh
  exact ⟨decode_cmd2_bytes .nop st d bl bh, decode_cmd2_bytes .init st d bl bh, decode_cmd2_bytes .rdsw st d bl bh,
    decode_cmd2_bytes .wrled st d bl bh⟩

/-- No two of the four codes name the same operation (R66, R68). -/
theorem bits_ofBits (c : BitVec 2) : (OpCode.ofBits c).bits = c := by
  revert c
  decide

/-- The code byte of a `Start` is its code where the padding is 0 (log entry 11). -/
theorem ofBits_setWidth_bits {op : Byte} (h : op.toNat < 4) : (OpCode.ofBits (op.setWidth 2)).bits.setWidth 8 = op := by
  rw [bits_ofBits]
  exact BitVec.setWidth_setWidth_eq_self (BitVec.lt_def.2 h)

/-- Only WRLED keeps its operands, so its row says both the code and the operands it came from (R68). -/
theorem instr_eq_wrled_iff {op : OpCode} {st d st' d' : Byte} {b b' : Word16} :
    op.instr st' d' b' = .wrled st d b ↔ op = .wrled ∧ st' = st ∧ d' = d ∧ b' = b := by
  cases op <;> simp [OpCode.instr]

theorem instrOp_lutInstr (x : Nibble) : instrOp (lutInstr x) = none := by
  revert x
  decide

/-- Settles O55: only a `Start` with WRLED's code decodes to WRLED, and its operands are kept. -/
theorem encodeOfDecodedWrledIsTheRequest : Obligations.EncodeOfDecodedWrledIsTheRequest := by
  intro r st d b hdec
  generalize hi : Instr.wrled st d b = i at hdec
  cases decode_eq_ok_iff.1 hdec with
  | start op st' d' bl bh hop =>
    obtain ⟨hcode, rfl, rfl, rfl⟩ := instr_eq_wrled_iff.1 hi.symm
    have hbyte := ofBits_setWidth_bits hop
    rw [hcode] at hbyte
    rw [← hi, encode, cmd2Request, hbyte, loByte_append, hiByte_append]
  | index x hx =>
    have hop := instrOp_lutInstr (x.setWidth 4)
    rw [← hi] at hop
    cases hop
  | switchFrame | ledFrame | ledFrame3 => cases hi

/-! ### The step on a request -/

/-- Settles O6. -/
theorem stepRunsTheDecodedRequest : Obligations.StepRunsTheDecodedRequest := by
  intro s r rest i hevents hdec
  exact step_start hevents hdec

/-- Settles O7: the decoder's reason is the refusal's. -/
theorem stepRefusesAMalformedRequest : Obligations.StepRefusesAMalformedRequest := by
  intro s r rest e hevents hdec
  rw [step, nextEvent, hevents]
  simp only [applyEvent, hdec]

theorem decode_of_decodeTableWord {nbits w : Nat} {i : Instr} (h : decodeTableWord nbits w = some i) :
    decode (tableRequest nbits w) = .ok i := by
  rw [decodeTableWord] at h
  split at h
  case h_1 j hj => cases h; exact hj
  case h_2 => cases h

/-- Settles O8: the placed word is the next event, and taking it gives the state of before back. -/
theorem stepRunsAPlacedTableWord : Obligations.StepRunsAPlacedTableWord := by
  intro s nbits w i hword
  exact step_start (s := s.withFetchWord nbits w) rfl (decode_of_decodeTableWord hword)

/-! ### The step on the other events -/

/-- An event that leaves no request is applied to the state without it (log entry 13). -/
theorem step_event {s t : State} {e : Event} {rest : List Event} (hevents : s.events = e :: rest)
    (h : applyEvent e { s with events := rest } = .inr t) : step s = .next t := by
  apply step_other
  rw [nextEvent, hevents]
  exact h

/-- With nothing arriving the block takes its next phase (log entry 13). -/
theorem step_nothing {s : State} (hevents : s.events = []) : step s = .next (tick s) := by
  apply step_other
  rw [nextEvent, hevents]
  rfl

/-- Settles O9: neither an idle nor a halted block has a phase to take. -/
theorem idleAndHaltedBlocksWait : Obligations.IdleAndHaltedBlocksWait := by
  intro s hevents hph
  rw [step_nothing hevents]
  rcases hph with hidle | hhalt
  · exact congrArg Host.Outcome.next (ticks_idle 1 hidle)
  · exact congrArg Host.Outcome.next (ticks_halt 1 hhalt)

/-- Settles O10, event by event. -/
theorem stepAppliesTheOtherEvents : Obligations.StepAppliesTheOtherEvents := by
  rintro s u rest rfl
  exact ⟨fun _ _ _ _ h => step_event h rfl, fun h => step_event h rfl, fun _ h => step_event h rfl,
    fun _ h => step_event h rfl, fun h => step_event h rfl, fun h => step_event h rfl, fun h => step_event h rfl,
    fun h => step_event h rfl, fun h => step_event h rfl, fun h => step_event h rfl, step_nothing⟩

/-- Settles O34: the reset puts its values in place whatever the state was. -/
theorem resetEventLeavesAnyState : Obligations.ResetEventLeavesAnyState := by
  intro s rest hevents
  exact ⟨applyReset { s with events := rest }, step_event hevents rfl, rfl, rfl, rfl, rfl, rfl, rfl, rfl, rfl, rfl, rfl,
    rfl, rfl, rfl, rfl, rfl, rfl, rfl⟩

end Sys2Proof.Machine
end

section
/-! The permuted word bit by bit, the multiplexer cascade, the LED frame on the wire, and what the Host reads of the
flags. -/

namespace Sys2Proof.Machine

/-! ### The permutation, bit by bit (40_transform.md R87) -/

/-- Bit `4 k + j` of a word is bit `j` of its nibble `k`. -/
theorem getLsbD_nibble (r : Word16) (k : Nat) {j : Nat} (hj : j < 4) :
    (nibble r k).getLsbD j = r.getLsbD (4 * k + j) := by
  simp [nibble, hj]

/-- Nibble `k` of the permuted word is the reversed nibble `3 - k` (R84). -/
theorem nibble_perm16 (r : Word16) (k : Fin 4) : nibble (perm16 r) k.val = rev4 (nibble r (3 - k.val)) := by
  obtain ⟨h3, h2, h1, h0⟩ :=
    nibble_append (rev4 (nibble r 0)) (rev4 (nibble r 1)) (rev4 (nibble r 2)) (rev4 (nibble r 3))
  rw [← perm16_eq_append] at h3 h2 h1 h0
  match k with
  | 0 => exact h0
  | 1 => exact h1
  | 2 => exact h2
  | 3 => exact h3

/-- PERM16 puts bit `15 - i` at bit `i` (R87 (a)). -/
theorem getLsbD_perm16 (r : Word16) {i : Nat} (hi : i < 16) : (perm16 r).getLsbD i = r.getLsbD (15 - i) := by
  have hj : i % 4 < 4 := Nat.mod_lt _ (by decide)
  have hsplit : 4 * (i / 4) + i % 4 = i := Nat.div_add_mod i 4
  have hmirror : 4 * (3 - i / 4) + (3 - i % 4) = 15 - i := by omega
  calc (perm16 r).getLsbD i = (nibble (perm16 r) (i / 4)).getLsbD (i % 4) := by rw [getLsbD_nibble _ _ hj, hsplit]
    _ = (rev4 (nibble r (3 - i / 4))).getLsbD (i % 4) := by rw [nibble_perm16 r ⟨i / 4, by omega⟩]
    _ = (nibble r (3 - i / 4)).getLsbD (3 - i % 4) := getLsbD_rev4 _ ⟨i % 4, hj⟩
    _ = r.getLsbD (15 - i) := by rw [getLsbD_nibble _ _ (by omega), hmirror]

/-- Settles O14. -/
theorem perm16ReversesAllSixteenBits : Obligations.Perm16ReversesAllSixteenBits := by
  intro r i
  have hback : 15 - (15 - i.val) = i.val := by omega
  rw [getLsbD_perm16 r (by omega), hback]

/-- Reversing all bits twice puts each one back (R87 (b)). -/
theorem perm16_perm16 (v : Word16) : perm16 (perm16 v) = v := by
  apply BitVec.eq_of_getLsbD_eq
  intro i hi
  have hback : 15 - (15 - i) = i := by omega
  rw [getLsbD_perm16 _ hi, getLsbD_perm16 _ (by omega), hback]

/-- DECODE16 undoes itself, since the complement passes through the permutation (R87 (c)). -/
theorem decode16_decode16 (v : Word16) : decode16 (decode16 v) = v := by
  rw [decode16, decode16, perm16_inv16, perm16_perm16, inv16, inv16, BitVec.not_not]

/-- Settles O15: ENCODE16 is DECODE16. -/
theorem decode16IsItsOwnInverse : Obligations.Decode16IsItsOwnInverse := by
  intro v
  exact ⟨perm16_perm16 v, decode16_decode16 v, decode16_decode16 v⟩

/-! ### The multiplexer cascade (R82) -/

theorem rev4Cascade_eq_rev4 (x : Nibble) : rev4Cascade x = rev4 x := by
  revert x
  decide

/-- Settles O12: the written-out cascade is `rev4Cascade`, which agrees with the table on the sixteen indexes. -/
theorem multiplexerCascadeIsTheTable : Obligations.MultiplexerCascadeIsTheTable := by
  intro x
  exact ⟨rev4Cascade_eq_rev4 x, rev4Cascade_eq_rev4 x⟩

/-! ### The LED frame on the wire (R91, R92) -/

theorem ser24_pack32 (st d : Byte) (b : Word16) : ser24 (pack32 st d b) = [loByte b, hiByte b, d] := by
  rw [ser24, ledByte_pack32_zero, ledByte_pack32_one, ledByte_pack32_two]

/-- Settles O19. -/
theorem ledFrameIsSentLowByteFirst : Obligations.LedFrameIsSentLowByteFirst := by
  intro st d b
  exact ⟨ser32_pack32 st d b, ser24_pack32 st d b⟩

/-! ### What the Host reads (10_state.md R13, R21) -/

theorem busy_eq (s : State) : busy s = decide (s.ph ≠ .idle ∧ s.ph ≠ .halt) := by
  simp [busy, bne, beq_eq_decide]

/-- Settles O53: each bit is read off the concatenation. -/
theorem statusViewHasTheListedBits : Obligations.StatusViewHasTheListedBits := by
  intro s
  rw [← busy_eq, statusView]
  generalize causeBits s.cause = c
  refine ⟨?_, ?_, ?_, ?_, ?_, ?_, ?_⟩
  case refine_7 =>
    apply BitVec.eq_of_getLsbD_eq
    intro i hi
    simp only [BitVec.getLsbD_extractLsb', BitVec.getLsbD_append]
    interval_cases i <;> simp
  all_goals
    simp only [BitVec.getLsbD_append]
    simp

/-- Settles O54. -/
theorem resultPortsHaveAValueOnlyWhenValid : Obligations.ResultPortsHaveAValueOnlyWhenValid := by
  intro s
  refine ⟨fun hinvalid => ?_, fun hvalid => ?_⟩
  · simp [ports, swAddrPort, swCmdPort, hinvalid]
  · simp [ports, swAddrPort, swCmdPort, hvalid]

end Sys2Proof.Machine
end

section
/-! The answers of the Link, the operations that leave the block as it was, and the state after reset. -/

namespace Sys2Proof.Machine

/-! ### The answers of the Link (20_memory.md R41 to R44) -/

theorem openAnswer_of_opens (cfg : SerialCfg) {s : State} {ok : Bool} {rest : List Bool}
    (h : s.link.opens = ok :: rest) : openAnswer cfg s = ok := by
  rw [openAnswer, h]

theorem readAnswer_of_reads {s : State} {a : ReadAnswer} {rest : List ReadAnswer} (hopen : s.linkOpen = true)
    (h : s.link.reads = a :: rest) : readAnswer s = a := by
  rw [readAnswer_open hopen, nextRead, h]

theorem writeAnswer_closed {s : State} (h : s.linkOpen = false) : writeAnswer s = 0 := by simp [writeAnswer, h]

/-- What is delivered is the first bytes of the answer (R41). -/
theorem deliveredBytes_prefix (a : ReadAnswer) : deliveredBytes a <+: [a.b0, a.b1, a.b2] := List.take_prefix _ _

/-- Settles O20: an answer is the head of its queue while the device is open; a closed device is not asked. -/
theorem linkAnswersAreTakenInOrder : Obligations.LinkAnswersAreTakenInOrder := by
  intro s
  refine ⟨fun ok r c h => ?_, fun a r hopen h => ?_, fun cnt r hopen h => ?_, fun hclosed => ?_,
    fun a => ⟨deliveredBytes_length a, deliveredBytes_prefix a⟩⟩
  · rw [linkOpenDevice_linkOpen, linkOpenDevice_link, linkOpenDevice_trace, openAnswer_of_opens c h, h]
    exact ⟨rfl, rfl, rfl⟩
  · rw [linkRead_link, linkRead_trace, linkAfterRead_open hopen, readAnswer_of_reads hopen h, h]
    exact ⟨rfl, rfl, rfl⟩
  · rw [linkWrite_link, linkWrite_trace, linkAfterWrite_open hopen, writeAnswer_of_writes hopen h, h]
    exact ⟨rfl, rfl, rfl⟩
  · rw [linkRead_link, linkRead_trace, linkWrite_link, linkWrite_trace, linkAfterRead_closed hclosed,
      linkAfterWrite_closed hclosed, readAnswer_closed hclosed, writeAnswer_closed hclosed]
    exact ⟨rfl, rfl, rfl, rfl⟩

/-! ### NOP, and a `Start` that is not accepted -/

/-- Settles O21: NOP is its `Done`, and the block is idle already. -/
theorem nopCompletesAndChangesNothing : Obligations.NopCompletesAndChangesNothing := by
  intro s hidle
  calc exec .nop s = .next (complete .nop s) := exec_instr_idle .nop 0 0 0 hidle
    _ = .next { s with results := s.results ++ [.nop] } := by rw [complete, ← hidle]

/-- Outside IDLE no operation is accepted (30_encoding.md R66). -/
theorem exec_instr_busy (op : OpCode) (st d : Byte) (b : Word16) {s : State} (h : s.ph ≠ .idle) :
    exec (op.instr st d b) s = .next s := by
  cases op with
  | nop | init | rdsw | wrled => exact congrArg Host.Outcome.next (ifAccepted_ignored _ h)

/-- Settles O29. -/
theorem startOutsideIdleIsIgnored : Obligations.StartOutsideIdleIsIgnored := by
  intro s st d b h
  exact ⟨exec_instr_busy .nop st d b h, exec_instr_busy .init st d b h, exec_instr_busy .rdsw st d b h,
    exec_instr_busy .wrled st d b h⟩

/-! ### The state after reset (10_state.md R30) -/

/-- Settles O33, field by field. -/
theorem resetStateHasTheListedValues : Obligations.ResetStateHasTheListedValues := by
  exact ⟨rfl, rfl, rfl, rfl, rfl, rfl, rfl, rfl, rfl, rfl, rfl, rfl, rfl, rfl⟩

/-- Settles O35: the state after reset is one that a reset leaves. -/
theorem invariantHoldsAtReset : Obligations.InvariantHoldsAtReset := by
  exact inv_applyReset State.reset

end Sys2Proof.Machine
end

section
/-! What every step keeps: the parameters, the order of the recorded lists, the operations answered so far, and the two
lines that only INIT drives. -/

namespace Sys2Proof.Machine

/-! ### The recorded lists and the parameters -/

/-- `t` comes from `s` with the parameters as they were and nothing taken from the trace, the log and the list of
results (10_state.md R29; log entries 2 and 19). -/
structure Extends (s t : State) : Prop where
  params : t.params = s.params
  trace : s.trace <+: t.trace
  log : s.log <+: t.log
  results : s.results <+: t.results

theorem Extends.refl (s : State) : Extends s s := ⟨rfl, List.prefix_rfl, List.prefix_rfl, List.prefix_rfl⟩

theorem Extends.trans {s t u : State} (h : Extends s t) (h' : Extends t u) : Extends s u :=
  ⟨h'.params.trans h.params, h.trace.trans h'.trace, h.log.trans h'.log, h.results.trans h'.results⟩

/-- A step that records one event. -/
theorem Extends.event {s t : State} {e : TraceEvent} (hparams : t.params = s.params) (htrace : t.trace = s.trace ++ [e])
    (hlog : t.log = s.log) (hresults : t.results = s.results) : Extends s t :=
  ⟨hparams, htrace ▸ List.prefix_append _ _, hlog ▸ List.prefix_rfl, hresults ▸ List.prefix_rfl⟩

theorem extends_setPh (p : Phase) (s : State) : Extends s (setPh p s) :=
  ⟨rfl, List.prefix_rfl, List.prefix_rfl, List.prefix_rfl⟩

theorem extends_complete (d : Done) (s : State) : Extends s (complete d s) :=
  ⟨rfl, List.prefix_rfl, List.prefix_rfl, List.prefix_append _ _⟩

theorem extends_linkRead (s : State) : Extends s (linkRead s) := .event rfl rfl rfl rfl

/-- The link fault is logged (60_exceptions.md R158). -/
theorem extends_raiseLinkFault (cnt : Int) (s : State) : Extends s (raiseLinkFault cnt s) :=
  ⟨rfl, List.prefix_rfl, List.prefix_append _ _, List.prefix_rfl⟩

/-- A short write is logged (42_led_write.md R124). -/
theorem extends_strobeHighAndCheck (s : State) : Extends s (strobeHighAndCheck s) := by
  rw [strobeHighAndCheck]
  rcases checkShort_cases (driveLine .ledStore true s) with ⟨-, hcheck⟩ | ⟨-, hcheck⟩
  · rw [hcheck]
    exact .event rfl rfl rfl rfl
  · rw [hcheck]
    exact ⟨rfl, List.prefix_append _ _, List.prefix_append _ _, List.prefix_rfl⟩

/-! ### The operations -/

theorem extends_readSwitches (s : State) : Extends s (readSwitches s) := by
  rcases eq_or_ne (readAnswer s).cnt 3 with hcnt | hcnt
  · rw [readSwitches_three hcnt, finishRead_eq, linkRead_selectAndLoad_eq]
    exact ⟨rfl, (List.prefix_append _ _).trans (List.prefix_append _ _), List.prefix_rfl, List.prefix_append _ _⟩
  · rw [readSwitches_fault hcnt, linkRead_selectAndLoad_eq]
    exact ⟨rfl, List.prefix_append _ _, List.prefix_append _ _, List.prefix_rfl⟩

theorem extends_initializeHardware (s : State) : Extends s (initializeHardware s) := by
  cases hopen : openAnswer Config.serialCfg s with
  | true =>
    rw [initializeHardware_opened_eq hopen]
    exact ⟨rfl, List.prefix_append _ _, List.prefix_append _ _, List.prefix_append _ _⟩
  | false =>
    rw [initializeHardware_notOpened_eq hopen]
    exact ⟨rfl, List.prefix_append _ _, List.prefix_append _ _, List.prefix_append _ _⟩

theorem extends_writeStatus (st d : Byte) (b : Word16) (s : State) : Extends s (writeStatus st d b s) := by
  rw [writeStatus, writeBody_eq]
  exact ⟨rfl, List.prefix_append _ _, List.prefix_append _ _, List.prefix_append _ _⟩

theorem extends_opBody (op : OpCode) (st d : Byte) (b : Word16) (s : State) : Extends s (opBody op st d b s) := by
  cases op with
  | nop => exact extends_complete .nop s
  | init => exact extends_initializeHardware s
  | rdsw => exact extends_readSwitches s
  | wrled => exact extends_writeStatus st d b s

theorem extends_acceptStart (op : OpCode) (st d : Byte) (b : Word16) (s : State) :
    Extends s (acceptStart op st d b s) := by
  cases op with
  | nop => exact extends_complete .nop s
  | init | rdsw | wrled => exact ⟨rfl, List.prefix_rfl, List.prefix_rfl, List.prefix_rfl⟩

theorem extends_ifAccepted {body : State → State} (hbody : ∀ s, Extends s (body s)) (s : State) :
    Extends s (ifAccepted body s) := by
  rcases eq_or_ne s.ph .idle with h | h
  · rw [ifAccepted_idle body h]
    exact hbody s
  · rw [ifAccepted_ignored body h]
    exact .refl s

/-- The Host's compare records nothing in the block's lists (60_exceptions.md R171). -/
theorem extends_poll (s : State) : Extends s (poll s) := by
  have hread : Extends s (ifAccepted readSwitches s) := extends_ifAccepted extends_readSwitches s
  rw [poll]
  split
  · exact ⟨hread.params, hread.trace, hread.log, hread.results⟩
  · exact hread

/-! ### The phases -/

theorem extends_readPhase (s : State) : Extends s (readPhase s) := by
  rw [readPhase]
  split
  · exact .refl s
  · rcases eq_or_ne (readAnswer s).cnt 3 with hcnt | hcnt
    · rw [acceptRead_three _ _ hcnt]
      exact .event rfl rfl rfl rfl
    · rw [acceptRead_fault _ _ hcnt]
      exact (extends_linkRead s).trans (extends_raiseLinkFault _ _)

theorem extends_writePhase (p : Phase) (s : State) : Extends s (writePhase p s) := by
  rw [writePhase]
  split
  · exact .refl s
  · exact .event rfl rfl rfl rfl

/-- A device that does not open is logged (43_init.md R146). -/
theorem extends_openPhase (s : State) : Extends s (openPhase s) := by
  rw [openPhase]
  split
  · exact .event rfl rfl rfl rfl
  · exact ⟨rfl, List.prefix_append _ _, List.prefix_append _ _, List.prefix_append _ _⟩

theorem extends_finishRead (s : State) : Extends s (finishRead s) := by
  rw [finishRead_eq]
  exact ⟨rfl, List.prefix_append _ _, List.prefix_rfl, List.prefix_append _ _⟩

theorem extends_finishWrite (s : State) : Extends s (finishWrite s) :=
  (extends_strobeHighAndCheck s).trans (extends_complete _ _)

theorem extends_succeedInit (s : State) : Extends s (succeedInit s) :=
  ⟨rfl, List.prefix_rfl, List.prefix_rfl, List.prefix_append _ _⟩

theorem extends_tick (s : State) : Extends s (tick s) := by
  cases hph : s.ph
  all_goals simp only [tick, hph]
  case idle | halt => exact .refl s
  case rd4 => exact extends_readPhase s
  case rd5 => exact extends_finishRead s
  case wr2 | in4 | in8 => exact extends_writePhase _ s
  case wr3 => exact extends_finishWrite s
  case in2 => exact extends_openPhase s
  case in5 => exact (extends_strobeHighAndCheck s).trans (extends_setPh _ _)
  case in9 => exact (extends_strobeHighAndCheck s).trans (extends_succeedInit _)
  all_goals exact .event rfl rfl rfl rfl

/-! ### The finer levels -/

theorem extends_rxByte (x : Byte) (s : State) : Extends s (rxByte x s) := by
  rw [rxByte]
  split
  · exact .event rfl rfl rfl rfl
  · exact .refl s

theorem extends_rxBit (v : Bool) (s : State) : Extends s (rxBit v s) := by
  rw [rxBit]
  split
  · exact .event rfl rfl rfl rfl
  · exact .refl s

theorem extends_rxEnd (s : State) : Extends s (rxEnd s) := by
  rw [rxEnd]
  split
  · dsimp only
    split
    · exact .event rfl rfl rfl rfl
    · exact ⟨rfl, List.prefix_append _ _, List.prefix_append _ _, List.prefix_rfl⟩
  · exact .refl s

theorem extends_endWrite (cnt : Int) (s : State) : Extends s (endWrite cnt s) := by
  cases h : afterWrite s.ph with
  | none =>
    rw [endWrite_other cnt h]
    exact .refl s
  | some p =>
    rw [endWrite_writing cnt h]
    exact .event rfl rfl rfl rfl

theorem extends_byteTaken (s : State) : Extends s (byteTaken s) := by
  have hcounted : Extends s { s with tx := { s.tx with bytec := countByte s.tx.bytec } } :=
    ⟨rfl, List.prefix_rfl, List.prefix_rfl, List.prefix_rfl⟩
  rw [byteTaken]
  dsimp only
  split
  · exact hcounted.trans (extends_endWrite _ _)
  · exact hcounted

/-- The serialiser moves and one event is recorded. -/
theorem extends_serialise (e : TraceEvent) (sh : Byte) (bitc : BitVec 3) (s : State) :
    Extends s (emit e { s with tx := { s.tx with shift := sh, bitc := bitc } }) :=
  .event rfl rfl rfl rfl

theorem extends_txByte (s : State) : Extends s (txByte s) := by
  rw [txByte]
  split
  · exact (extends_serialise _ _ _ s).trans (extends_byteTaken _)
  · exact .refl s

theorem extends_txBit (s : State) : Extends s (txBit s) := by
  rw [txBit]
  split
  · dsimp only
    split
    · exact (extends_serialise _ _ _ s).trans (extends_byteTaken _)
    · exact extends_serialise _ _ _ s
  · exact .refl s

theorem extends_txEnd (s : State) : Extends s (txEnd s) := by
  have hended : Extends s (emit .txEnd s) := .event rfl rfl rfl rfl
  rw [txEnd]
  split
  · exact hended.trans (extends_endWrite _ _)
  · exact .refl s

/-! ### The step -/

theorem extends_applyEvent {e : Event} {s t : State} (he : e ≠ .rst) (h : applyEvent e s = .inr t) : Extends s t := by
  cases e with
  | start r => cases h
  | startFine op st d b => cases h; exact extends_ifAccepted (extends_acceptStart op st d b) s
  | tick => cases h; exact extends_tick s
  | rxByte x => cases h; exact extends_rxByte x s
  | rxBit v => cases h; exact extends_rxBit v s
  | rxEnd => cases h; exact extends_rxEnd s
  | txByte => cases h; exact extends_txByte s
  | txBit => cases h; exact extends_txBit s
  | txEnd => cases h; exact extends_txEnd s
  | poll => cases h; exact extends_poll s
  | rst => exact absurd rfl he

/-- Every step but a reset extends the recorded lists and keeps the parameters; the list of events is neither. -/
theorem extends_step {s t : State} (he : headEvent s ≠ .rst) (h : step s = .next t) : Extends s t := by
  obtain ⟨rest, heffect⟩ := step_effect h
  have htaken : Extends s { s with events := rest } := ⟨rfl, List.prefix_rfl, List.prefix_rfl, List.prefix_rfl⟩
  refine htaken.trans ?_
  cases heffect with
  | observed v _ => exact ⟨rfl, List.prefix_rfl, List.prefix_rfl, List.prefix_rfl⟩
  | issued op st d b _ => exact extends_ifAccepted (extends_opBody op st d b) _
  | applied happlied => exact extends_applyEvent he happlied

/-- A step that takes a reset is the reset (70_reset_and_hazards.md R185). -/
theorem step_rst {s t : State} (he : headEvent s = .rst) (h : step s = .next t) : t = applyReset (nextEvent s).2 := by
  have hnext : (nextEvent s).1 = .rst := he
  have hreset : step s = .next (applyReset (nextEvent s).2) := step_other (by rw [hnext]; rfl)
  exact Host.Outcome.next.inj (h.symm.trans hreset)

/-- Settles O38. -/
theorem traceAndLogAreAppendOnly : Obligations.TraceAndLogAreAppendOnly := by
  intro s t he h
  obtain ⟨-, htrace, hlog, hresults⟩ := extends_step he h
  exact ⟨htrace, hlog, hresults⟩

/-- Settles O42: a reset keeps the parameters too. -/
theorem parametersAreConstant : Obligations.ParametersAreConstant := by
  intro s t h
  rcases eq_or_ne (headEvent s) .rst with he | he
  · obtain ⟨rest, hrest⟩ := nextEvent_frame s
    rw [step_rst he h, hrest, applyReset_params]
  · exact (extends_step he h).params

/-- Settles O56: the two sides are the operations accepted before and after the step. -/
theorem everyOperationIsAnsweredOnce : Obligations.EveryOperationIsAnsweredOnce := by
  intro s t hd he h
  exact acceptedOps_step hd he h

/-! ### LED_MR and LED_OE (10_state.md R22, R28) -/

/-- The two lines that only INIT drives. -/
def initLines (s : State) : Level × Level := (s.lines.ledMr, s.lines.ledOe)

/-- A switch read moves the two switch lines, and the link fault leaves no line a level (41_switch_read.md R102,
R103). -/
theorem initLines_readSwitches (s : State) :
    initLines (readSwitches s) = initLines s ∨
      (readSwitches s).fault = true ∧ (readSwitches s).lines = Lines.undriven := by
  rcases eq_or_ne (readAnswer s).cnt 3 with hcnt | hcnt
  · rw [readSwitches_three hcnt, finishRead_eq, linkRead_selectAndLoad_eq]
    exact .inl rfl
  · rw [readSwitches_fault hcnt]
    exact .inr ⟨rfl, rfl⟩

/-- A write moves the store strobe alone (42_led_write.md R122). -/
theorem initLines_writeStatus (st d : Byte) (b : Word16) (s : State) :
    initLines (writeStatus st d b s) = initLines s := by
  rw [writeStatus, writeBody_eq]
  rfl

theorem initLines_opBody {op : OpCode} (hop : op ≠ .init) (st d : Byte) (b : Word16) (s : State) :
    initLines (opBody op st d b s) = initLines s ∨
      op = .rdsw ∧ (opBody op st d b s).fault = true ∧ (opBody op st d b s).lines = Lines.undriven := by
  cases op with
  | nop => exact .inl rfl
  | init => exact absurd rfl hop
  | rdsw => exact (initLines_readSwitches s).imp_right fun h => ⟨rfl, h⟩
  | wrled => exact .inl (initLines_writeStatus st d b s)

/-- Settles O41: a row is an observation, or an operation that is accepted or not. -/
theorem onlyInitDrivesLedMrAndLedOe : Obligations.OnlyInitDrivesLedMrAndLedOe := by
  intro i s t hi h
  rcases exec_cases h with ⟨-, v, rfl⟩ | ⟨op, st, d, b, hop, rfl⟩
  · exact .inl ⟨rfl, rfl⟩
  · obtain ⟨_, _, _, rfl⟩ := eq_instr_of_instrOp hop
    have hnotInit : op ≠ .init := fun hinit => hi (by rw [hinit, OpCode.instr])
    rcases eq_or_ne s.ph .idle with hph | hph
    · rw [ifAccepted_idle _ hph]
      rcases initLines_opBody hnotInit st d b s with hkept | ⟨rfl, hfault⟩
      · exact .inl (Prod.mk.inj hkept)
      · exact .inr ⟨rfl, hfault⟩
    · rw [ifAccepted_ignored _ hph]
      exact .inl ⟨rfl, rfl⟩

end Sys2Proof.Machine
end

section
/-! The operations phase by phase: each runs through its phases to the end of its big step. -/

namespace Sys2Proof.Machine

/-! ### Phases in sequence -/

theorem ticks_add (m n : Nat) (s : State) : ticks (m + n) s = ticks n (ticks m s) := by
  induction m generalizing s with
  | zero => rw [Nat.zero_add, ticks]
  | succ m ih => rw [Nat.succ_add, ticks, ih, ticks]

/-- An operation that has ended stays as it is for any further phases. -/
theorem ticks_of_ended {m : Nat} {s t : State} (h : ticks m s = t) (hend : t.ph = .idle ∨ t.ph = .halt) (n : Nat) :
    ticks (m + n) s = t := by
  rw [ticks_add, h]
  exact hend.elim (ticks_idle n) (ticks_halt n)

/-! ### RDSW (41_switch_read.md R107) -/

/-- The state that the read phase finds: steps 1 to 3 of R101 done and the receive counters cleared (10_state.md
R17). -/
def readyToReceive (s : State) : State :=
  { selectAndLoad s with rx := { s.rx with bitc := 0, bytec := 0 } }

theorem ticks_rd1 (s : State) : ticks 3 (setPh .rd1 s) = setPh .rd4 (readyToReceive s) := by
  rw [ticks, tick_rd1, ticks, tick_rd2, ticks, tick_rd3, ticks]
  rfl

/-- A stored frame writes the counters that were cleared before it. -/
theorem storeFrame_readyToReceive (a : ReadAnswer) (s : State) :
    storeFrame a (linkRead (readyToReceive s)) = storeFrame a (linkRead (selectAndLoad s)) := rfl

/-- After the link fault the receive registers have no value of before (R102). -/
theorem raiseLinkFault_readyToReceive (cnt : Int) (s : State) :
    raiseLinkFault cnt (linkRead (readyToReceive s)) = raiseLinkFault cnt (linkRead (selectAndLoad s)) := rfl

/-- The four phases up to the read in one go. -/
theorem ticks_rdsw (s : State) :
    ticks 4 (acceptStart .rdsw 0 0 0 s) =
      acceptRead (readAnswer s) (setPh .rd5) (setPh .rd4 (linkRead (readyToReceive s))) := by
  have hanswer : readAnswer (readyToReceive s) = readAnswer s := rfl
  rw [acceptStart, ticks_add 3 1, ticks_rd1, ticks, ticks, tick_rd4 (s := readyToReceive s) rfl, hanswer]

theorem ticks_rdsw_three {s : State} (h : (readAnswer s).cnt = 3) :
    ticks 5 (acceptStart .rdsw 0 0 0 s) = readSwitches s := by
  rw [ticks_add 4 1, ticks_rdsw, acceptRead_three _ _ h, ticks, ticks, tick_rd5, storeFrame_setPh, finishRead_setPh,
    storeFrame_readyToReceive, readSwitches_three h]

theorem ticks_rdsw_fault {s : State} (h : (readAnswer s).cnt ≠ 3) :
    ticks 4 (acceptStart .rdsw 0 0 0 s) = readSwitches s := by
  rw [ticks_rdsw, acceptRead_fault _ _ h, raiseLinkFault_setPh, raiseLinkFault_readyToReceive, readSwitches_fault h]

/-! ### WRLED (42_led_write.md R127) -/

/-- The state that a write phase finds: steps 1 and 2 of R122 done. -/
def readyToSend (st d : Byte) (b : Word16) (s : State) : State := strobeLow (latchOperands st d b s)

/-- The write in one go, for the write phase of WRLED and for those of INIT. -/
theorem writePhase_readyToSend (p q : Phase) (st d : Byte) (b : Word16) (s : State) :
    writePhase p (setPh q (readyToSend st d b s)) = setPh p (linkWrite (readyToSend st d b s)) :=
  writePhase_setPh p q (transmitting_strobeLow _)

theorem ticks_wrled (st d : Byte) (b : Word16) (s : State) :
    ticks 3 (acceptStart .wrled st d b s) = writeStatus st d b s := by
  calc ticks 3 (acceptStart .wrled st d b s) = tick (writePhase .wr3 (setPh .wr2 (readyToSend st d b s))) := rfl
    _ = finishWrite (linkWrite (readyToSend st d b s)) := by rw [writePhase_readyToSend, tick_wr3]
    _ = writeStatus st d b s := rfl

/-! ### INIT (43_init.md R148) -/

theorem ticks_in1 (s : State) :
    ticks 2 (acceptStart .init 0 0 0 s) = if (resetAndOpen s).linkOpen then setPh .in3 (resetAndOpen s) else
      failInit (resetAndOpen s) := rfl

/-- The first pattern, written in one go. -/
theorem ticks_in3 (s : State) : ticks 3 (setPh .in3 s) = setPh .in6 (writePattern s.params.diagAllOn s) := by
  let p := s.params.diagAllOn
  calc ticks 3 (setPh .in3 s) = tick (writePhase .in5 (setPh .in4 (readyToSend p.status p.data p.bus s))) := rfl
    _ = setPh .in6 (strobeHighAndCheck (setPh .in5 (linkWrite (readyToSend p.status p.data p.bus s)))) := by
      rw [writePhase_readyToSend]
      rfl
    _ = setPh .in6 (writePattern p s) := by
      rw [strobeHighAndCheck_setPh, setPh_setPh]
      rfl

/-- The settle delay between the patterns (R144). -/
theorem ticks_in6 (s : State) :
    ticks 1 (setPh .in6 (writePattern s.params.diagAllOn s)) = setPh .in7 (showAllOn s) := rfl

/-- The second pattern, written in one go, and the successful end (R145). -/
theorem ticks_in7 (s : State) : ticks 3 (setPh .in7 s) = succeedInit (writePattern s.params.diagAlt s) := by
  let p := s.params.diagAlt
  calc ticks 3 (setPh .in7 s) = tick (writePhase .in9 (setPh .in8 (readyToSend p.status p.data p.bus s))) := rfl
    _ = succeedInit (strobeHighAndCheck (setPh .in9 (linkWrite (readyToSend p.status p.data p.bus s)))) := by
      rw [writePhase_readyToSend]
      rfl
    _ = succeedInit (writePattern p s) := by
      rw [strobeHighAndCheck_setPh]
      rfl

/-- The nine phases of INIT on a device that opens. -/
theorem ticks_init_opened {s : State} (h : openAnswer Config.serialCfg s = true) :
    ticks 9 (acceptStart .init 0 0 0 s) = initializeHardware s := by
  have hopen : (resetAndOpen s).linkOpen = true := (resetAndOpen_linkOpen s).trans h
  have hparams : (showAllOn (resetAndOpen s)).params = (resetAndOpen s).params := by rw [showAllOn_eq hopen]
  rw [ticks_add 2 7, ticks_in1, if_pos hopen, ticks_add 3 4, ticks_in3, ticks_add 1 3, ticks_in6, ticks_in7, hparams,
    initializeHardware_opened h]
  rfl

/-- INIT on a device that does not open ends after its second phase (R146). -/
theorem ticks_init_notOpened {s : State} (h : openAnswer Config.serialCfg s = false) :
    ticks 2 (acceptStart .init 0 0 0 s) = initializeHardware s := by
  have hclosed : (resetAndOpen s).linkOpen ≠ true := ne_true_of_eq_false ((resetAndOpen_linkOpen s).trans h)
  rw [ticks_in1, if_neg hclosed, initializeHardware_notOpened h]

/-! ### The obligation -/

/-- Every operation is over after nine phases, INIT on a device that opens after exactly nine. -/
theorem ticks_acceptStart (op : OpCode) (st d : Byte) (b : Word16) (s : State) :
    ticks 9 (acceptStart op st d b s) = opBody op st d b s := by
  cases op with
  | nop => exact ticks_idle 9 rfl
  | init =>
    cases hopen : openAnswer Config.serialCfg s with
    | true => exact ticks_init_opened hopen
    | false => exact ticks_of_ended (ticks_init_notOpened hopen) (.inl (initializeHardware_ph s)) 7
  | rdsw =>
    rcases eq_or_ne (readAnswer s).cnt 3 with hcnt | hcnt
    · exact ticks_of_ended (ticks_rdsw_three hcnt) (.inl (by rw [readSwitches_three hcnt, finishRead_eq])) 4
    · exact ticks_of_ended (ticks_rdsw_fault hcnt) (.inr (endsBadly_readSwitches hcnt)) 5
  | wrled => exact ticks_of_ended (ticks_wrled st d b s) (.inl rfl) 6

/-- Settles O44: an idle block accepts the operation, and its phases end where its big step does. -/
theorem bigStepIsTheCompositionOfItsPhases : Obligations.BigStepIsTheCompositionOfItsPhases := by
  intro op st d b s hidle
  rw [ticks_acceptStart, exec_instr_idle op st d b hidle]

end Sys2Proof.Machine
end

section
/-! The frame parser: what bytes and bits leave in the receive registers, and a whole switch read bit by bit. -/

namespace Sys2Proof.Machine

/-! ### Bytes (41_switch_read.md R108) -/

theorem awaitsRead_iff {s : State} : awaitsRead s = true ↔ s.ph = .rd4 ∧ s.linkOpen = true := by
  rw [awaitsRead, Bool.and_eq_true, beq_iff_eq]

/-- The receive registers after the bytes `xs`, the first first. -/
def takeBytes (xs : List Byte) (rx : Rx) : Rx := xs.foldl (fun r x => takeByte x r) rx

/-- Bytes that come in while a read waits move the receive registers and the trace alone. -/
theorem rxBytes_eq {s : State} (h : awaitsRead s = true) (xs : List Byte) :
    rxBytes xs s = { s with rx := takeBytes xs s.rx, trace := s.trace ++ xs.map .rxByte } := by
  induction xs generalizing s with
  | nil => simp [rxBytes, takeBytes]
  | cons x xs ih =>
    have hbyte : rxByte x s = { s with rx := takeByte x s.rx, trace := s.trace ++ [.rxByte x] } := if_pos h
    have hrest := ih (s := { s with rx := takeByte x s.rx, trace := s.trace ++ [.rxByte x] }) h
    rw [rxBytes, hbyte, hrest]
    simp [takeBytes]

theorem byteCount_eq_iff {n : Nat} {k : Fin 5} (hk : k.val < 4) : byteCount n = k ↔ n = k.val := by
  rw [Fin.ext_iff, byteCount_val]
  omega

/-- The `k`-th byte once one more has come: the new one where it is the `k`-th. -/
theorem getD_concat (xs : List Byte) (x b : Byte) {k : Fin 5} (hk : k.val < 4) :
    (xs ++ [x])[k.val]?.getD b = if byteCount xs.length = k then x else xs[k.val]?.getD b := by
  simp only [byteCount_eq_iff hk]
  rcases lt_trichotomy k.val xs.length with hlt | heq | hgt
  · rw [List.getElem?_append_left hlt, if_neg (by omega)]
  · rw [if_pos heq.symm, heq, List.getElem?_concat_length, Option.getD_some]
  · rw [if_neg (by omega), List.getElem?_eq_none (by simp; omega), List.getElem?_eq_none (by omega)]

/-- From an empty count each byte goes to its own place, and those after the third to none (R108, R109). -/
theorem takeBytes_eq (xs : List Byte) {rx : Rx} (h : rx.bytec = 0) :
    takeBytes xs rx =
      { rx with
        buf0 := xs[0]?.getD rx.buf0
        buf1 := xs[1]?.getD rx.buf1
        buf2 := xs[2]?.getD rx.buf2
        bytec := byteCount xs.length } := by
  induction xs using List.reverseRecOn with
  | nil => exact Rx.ext rfl rfl rfl rfl rfl h
  | append_singleton xs x ih =>
    have hlast : takeBytes (xs ++ [x]) rx = takeByte x (takeBytes xs rx) := List.foldl_concat ..
    have hcount : byteCount (xs ++ [x]).length = countByte (byteCount xs.length) := by simp
    rw [hlast, ih, hcount]
    exact Rx.ext rfl (getD_concat xs x rx.buf0 (k := 0) (by decide)).symm
      (getD_concat xs x rx.buf1 (k := 1) (by decide)).symm (getD_concat xs x rx.buf2 (k := 2) (by decide)).symm rfl rfl

/-- Settles O45. -/
theorem byteLevelParserCountsAndStores : Obligations.ByteLevelParserCountsAndStores := by
  intro s xs hph hopen hcount
  rw [rxBytes_eq (awaitsRead_iff.2 ⟨hph, hopen⟩), takeBytes_eq xs hcount]

/-! ### Bits (R110) -/

/-- The receive registers after the bits `vs`, the first first. -/
def takeBits (o : BitOrder) (vs : List Bool) (rx : Rx) : Rx := vs.foldl (fun r v => takeBit o v r) rx

/-- Bits that come in while a read waits move the receive registers and the trace alone. -/
theorem rxBits_eq {s : State} (h : awaitsRead s = true) (vs : List Bool) :
    rxBits vs s = { s with rx := takeBits s.params.bitOrder vs s.rx, trace := s.trace ++ vs.map .rxBit } := by
  induction vs generalizing s with
  | nil => simp [rxBits, takeBits]
  | cons v vs ih =>
    let u : State := { s with rx := takeBit s.params.bitOrder v s.rx, trace := s.trace ++ [.rxBit v] }
    have hbit : rxBit v s = u := if_pos h
    have hrest := ih (s := u) h
    rw [rxBits, hbit, hrest]
    simp [takeBits, u]

/-- The deserialiser after the bits `vs`. -/
def shiftInBits (o : BitOrder) (vs : List Bool) (sh : Byte) : Byte := vs.foldl (fun r v => shiftIn o v r) sh

/-- Eight bits in wire order shift the whole old content out (R111). -/
theorem shiftInBits_wireBits (o : BitOrder) (x sh : Byte) : shiftInBits o (wireBits o x) sh = x := by
  apply BitVec.eq_of_getLsbD_eq
  intro i hi
  cases o <;>
    simp only [shiftInBits, wireBits, shiftIn, List.foldl_cons, List.foldl_nil, BitVec.getLsbD_append,
      BitVec.getLsbD_extractLsb'] <;>
    interval_cases i <;> simp

theorem takeBit_more (o : BitOrder) (v : Bool) {rx : Rx} (h : rx.bitc ≠ 7) :
    takeBit o v rx = { rx with shift := shiftIn o v rx.shift, bitc := rx.bitc + 1 } := if_neg h

theorem takeBit_last (o : BitOrder) (v : Bool) {rx : Rx} (h : rx.bitc = 7) :
    takeBit o v rx = { takeByte (shiftIn o v rx.shift) rx with shift := shiftIn o v rx.shift, bitc := 0 } := if_pos h

/-- Before the eighth bit no byte is whole: only the deserialiser and the bit counter move. -/
theorem takeBits_partial (o : BitOrder) (vs : List Bool) {rx : Rx} (h : rx.bitc.toNat + vs.length < 8) :
    takeBits o vs rx = { rx with shift := shiftInBits o vs rx.shift, bitc := rx.bitc + BitVec.ofNat 3 vs.length } := by
  induction vs generalizing rx with
  | nil => simp [takeBits, shiftInBits]
  | cons v vs ih =>
    rw [List.length_cons] at h
    have hmore : rx.bitc ≠ 7 := fun h7 => by simp [h7] at h; omega
    have hcount : (rx.bitc + 1).toNat = rx.bitc.toNat + 1 := BitVec.toNat_add_of_lt (by simp; omega)
    have hrest := ih (rx := takeBit o v rx) (by rw [takeBit_more o v hmore]; dsimp only; omega)
    have hlength : rx.bitc + 1 + BitVec.ofNat 3 vs.length = rx.bitc + BitVec.ofNat 3 (vs.length + 1) := by
      rw [BitVec.ofNat_add, BitVec.add_assoc, BitVec.add_comm 1]
      rfl
    calc takeBits o (v :: vs) rx = takeBits o vs (takeBit o v rx) := rfl
      _ = _ := by
        rw [hrest, takeBit_more o v hmore]
        exact Rx.ext rfl rfl rfl rfl hlength rfl

/-- The eighth bit of a byte hands the deserialiser's content on. -/
theorem takeBits_eight (o : BitOrder) {vs : List Bool} (hvs : vs.length = 8) {rx : Rx} (h : rx.bitc = 0) :
    takeBits o vs rx =
      { takeByte (shiftInBits o vs rx.shift) rx with shift := shiftInBits o vs rx.shift, bitc := 0 } := by
  obtain rfl | ⟨ws, v, rfl⟩ := List.eq_nil_or_concat' vs
  · cases hvs
  · have hws : ws.length = 7 := by simpa using hvs
    have hseven := takeBits_partial o ws (rx := rx) (by rw [h, hws]; decide)
    have hlast : takeBits o (ws ++ [v]) rx = takeBit o v (takeBits o ws rx) := List.foldl_concat ..
    have hshift : shiftInBits o (ws ++ [v]) rx.shift = shiftIn o v (shiftInBits o ws rx.shift) := List.foldl_concat ..
    rw [hlast, hseven, hshift, h, hws]
    exact takeBit_last o v rfl

theorem wireBits_length (o : BitOrder) (x : Byte) : (wireBits o x).length = 8 := by
  cases o <;> rfl

/-- Eight bits in wire order are one byte to the registers, which the deserialiser then holds (R110, R111). -/
theorem takeBits_wireBits (o : BitOrder) (x : Byte) {rx : Rx} (h : rx.bitc = 0) :
    takeBits o (wireBits o x) rx = { takeByte x rx with shift := x, bitc := 0 } := by
  rw [takeBits_eight o (wireBits_length o x) h, shiftInBits_wireBits]

/-- Settles O46. -/
theorem eightRxBitsAreOneRxByte : Obligations.EightRxBitsAreOneRxByte := by
  intro s x hph hopen hbitc
  have hwait : awaitsRead s = true := awaitsRead_iff.2 ⟨hph, hopen⟩
  have hbyte : (rxByte x s).rx = takeByte x s.rx := by rw [rxByte, if_pos hwait]; rfl
  rw [rxBits_eq hwait, takeBits_wireBits _ _ hbitc, hbyte, ← hbitc]
  rfl

/-! ### A whole read bit by bit -/

/-- The bits of three bytes fill `rx_buf` and leave the last byte in the deserialiser. -/
theorem takeBits_frame (o : BitOrder) (b0 b1 b2 : Byte) {rx : Rx} (hbitc : rx.bitc = 0) (hbytec : rx.bytec = 0) :
    takeBits o (wireBits o b0 ++ wireBits o b1 ++ wireBits o b2) rx = ⟨b2, b0, b1, b2, 0, 3⟩ := by
  have happend : ∀ vs ws r, takeBits o (vs ++ ws) r = takeBits o ws (takeBits o vs r) := fun _ _ _ => List.foldl_append
  rw [happend, happend, takeBits_wireBits o b0 hbitc, takeBits_wireBits o b1 rfl, takeBits_wireBits o b2 rfl]
  simp only [takeByte, hbytec]
  rfl

/-- The bits of a frame, delivered to a read that is ready for them. -/
theorem rxBits_readyToReceive (b0 b1 b2 : Byte) {s : State} (hopen : s.linkOpen = true) :
    rxBits (wireBits s.params.bitOrder b0 ++ wireBits s.params.bitOrder b1 ++ wireBits s.params.bitOrder b2)
        (setPh .rd4 (readyToReceive s)) =
      { s with
        rx := ⟨b2, b0, b1, b2, 0, 3⟩
        ph := .rd4
        lines := { s.lines with swCsN := .low, swLoad := .high }
        trace := s.trace ++ [.lineSet .swCsN false, .lineSet .swLoad false, .lineSet .swLoad true] ++
          (wireBits s.params.bitOrder b0 ++ wireBits s.params.bitOrder b1 ++
            wireBits s.params.bitOrder b2).map .rxBit } := by
  have hwait : awaitsRead (setPh .rd4 (readyToReceive s)) = true := awaitsRead_iff.2 ⟨rfl, hopen⟩
  have hframe := takeBits_frame s.params.bitOrder b0 b1 b2 (rx := { s.rx with bitc := 0, bytec := 0 }) rfl rfl
  rw [rxBits_eq hwait, readyToReceive, selectAndLoad_eq]
  simp only [setPh, hframe]

/-- Settles O48: the bits leave the frame in `rx_buf` as the read in one go does, and the commit reads `rx_buf`. -/
theorem bitLevelReadRefinesTheBigStep : Obligations.BitLevelReadRefinesTheBigStep := by
  intro s u b0 b1 b2 q hidle hopen hreads hu
  have hanswer : readAnswer s = ⟨3, b0, b1, b2⟩ := readAnswer_of_reads hopen hreads
  have hcnt : (readAnswer s).cnt = 3 := congrArg ReadAnswer.cnt hanswer
  refine ⟨s.link, s.draws, ?_⟩
  cases (exec_rdsw_idle hidle).symm.trans hu
  rw [acceptStart, ticks_rd1, rxBits_readyToReceive b0 b1 b2 hopen,
    (rxEndAcceptsExactlyThreeWholeBytes _ rfl).1 ⟨rfl, rfl⟩, readSwitches_three hcnt, finishRead_eq,
    linkRead_selectAndLoad_eq, hanswer]
  simp only [tick, finishRead_eq]
  simp [storeFrame]

end Sys2Proof.Machine
end

section
/-! The LED encoder: how the Link takes a byte, whole or in its bits, and what the bytes of a frame taken so leave. -/

namespace Sys2Proof.Machine

/-! ### A byte on offer (42_led_write.md R127) -/

theorem offeredByte_eq_some_iff {s : State} {x : Byte} :
    offeredByte s = some x ↔
      (afterWrite s.ph).isSome = true ∧ s.linkOpen = true ∧ (txBytes s)[s.tx.bytec.val]? = some x := by
  rw [offeredByte, ← and_assoc, ← Bool.and_eq_true]
  split <;> simp_all

theorem exists_count_eq_succ (f : LedFrameBytes) : ∃ n, f.count = n + 1 := by
  cases f with
  | four => exact ⟨3, rfl⟩
  | three => exact ⟨2, rfl⟩

theorem count_le_four (f : LedFrameBytes) : f.count ≤ 4 := by
  cases f <;> decide

/-- A byte is on offer while fewer than the frame's have been taken. -/
theorem bytec_lt_of_offeredByte {s : State} {x : Byte} (h : offeredByte s = some x) :
    s.tx.bytec.val < s.params.ledFrameBytes.count := by
  obtain ⟨-, -, hbyte⟩ := offeredByte_eq_some_iff.1 h
  rw [← txBytes_length]
  exact (List.getElem?_eq_some_iff.1 hbyte).1

theorem countByte_val (n : Fin 5) : (countByte n).val = min (n.val + 1) 4 := rfl

/-- A byte that leaves room for another is counted and nothing else. -/
theorem byteTaken_counted {s : State} (h : s.tx.bytec.val + 1 < s.params.ledFrameBytes.count) :
    byteTaken s = { s with tx := { s.tx with bytec := countByte s.tx.bytec } } := by
  refine byteTaken_more ?_
  rw [countByte_val, ledFrameCount]
  have hfour := count_le_four s.params.ledFrameBytes
  omega

/-- The frame's last byte ends the phase with the frame's length as the count (R127, R129). -/
theorem byteTaken_full {s : State} {q : Phase} (hq : afterWrite s.ph = some q)
    (h : s.tx.bytec.val + 1 = s.params.ledFrameBytes.count) :
    byteTaken s =
      { s with
        tx := { s.tx with bytec := byteCount s.params.ledFrameBytes.count, cnt := s.params.ledFrameBytes.count }
        ph := q
        trace := s.trace ++ [.write (txBytes s) s.params.ledFrameBytes.count] } := by
  have hcount : countByte s.tx.bytec = byteCount s.params.ledFrameBytes.count := congrArg byteCount h
  have hlast : ((countByte s.tx.bytec).val : Int) = ledFrameCount s := by
    have hfour := count_le_four s.params.ledFrameBytes
    rw [countByte_val, ledFrameCount]
    omega
  rw [byteTaken_last hlast, hcount]
  exact endWrite_writing _ hq

/-- The `Write(bs, cnt)` that a byte taken from `s` brings where it is the frame's last (R129, decision D1). -/
def fullWriteEvents (s : State) : List TraceEvent :=
  if s.tx.bytec.val + 1 = s.params.ledFrameBytes.count then [.write (txBytes s) s.params.ledFrameBytes.count] else []

/-- A byte taken adds to the trace and reads nothing of it. -/
theorem byteTaken_withTrace {s : State} {x : Byte} (h : offeredByte s = some x) (tr : List TraceEvent) :
    byteTaken { s with trace := tr } = { byteTaken s with trace := tr ++ fullWriteEvents s } := by
  obtain ⟨hphase, -, -⟩ := offeredByte_eq_some_iff.1 h
  obtain ⟨q, hq⟩ := Option.isSome_iff_exists.1 hphase
  rcases eq_or_lt_of_le (Nat.succ_le_of_lt (bytec_lt_of_offeredByte h)) with hlast | hmore
  · rw [byteTaken_full hq hlast, byteTaken_full (s := { s with trace := tr }) hq hlast, fullWriteEvents, if_pos hlast]
    rfl
  · rw [byteTaken_counted hmore, byteTaken_counted (s := { s with trace := tr }) hmore, fullWriteEvents,
      if_neg (Nat.ne_of_lt hmore), List.append_nil]

/-! ### A byte in its bits (R128) -/

/-- The serialiser is empty and a byte is about to be counted; `tr` is the trace. -/
def serialised (tr : List TraceEvent) (s : State) : State :=
  { s with tx := { s.tx with shift := 0, bitc := 0 }, trace := tr }

/-- The first `n` bits of `x` on serial data out. -/
def outBits (o : BitOrder) (n : Nat) (x : Byte) : List Bool :=
  (List.range n).map fun i => shiftOutBit o ((shiftOut o)^[i] x)

theorem shiftOut_msbFirst (sh : Byte) : shiftOut .msbFirst sh = sh <<< 1 := by
  apply BitVec.eq_of_getLsbD_eq
  intro i hi
  rw [shiftOut, BitVec.getLsbD_append, BitVec.getLsbD_extractLsb', BitVec.getLsbD_shiftLeft]
  interval_cases i <;> simp

theorem shiftOut_lsbFirst (sh : Byte) : shiftOut .lsbFirst sh = sh >>> 1 := by
  apply BitVec.eq_of_getLsbD_eq
  intro i hi
  rw [shiftOut, BitVec.getLsbD_append, BitVec.getLsbD_extractLsb', BitVec.getLsbD_ushiftRight]
  interval_cases i <;> simp

theorem shiftOut_msbFirst_iterate (n : Nat) (sh : Byte) : (shiftOut .msbFirst)^[n] sh = sh <<< n := by
  induction n with
  | zero => exact (BitVec.shiftLeft_zero sh).symm
  | succ n ih => rw [Function.iterate_succ_apply', ih, shiftOut_msbFirst, BitVec.shiftLeft_add]

theorem shiftOut_lsbFirst_iterate (n : Nat) (sh : Byte) : (shiftOut .lsbFirst)^[n] sh = sh >>> n := by
  induction n with
  | zero => exact (BitVec.ushiftRight_zero sh).symm
  | succ n ih => rw [Function.iterate_succ_apply', ih, shiftOut_lsbFirst, BitVec.shiftRight_add]

/-- The eight bits of a byte go out in wire order (20_memory.md R47). -/
theorem outBits_eight (o : BitOrder) (x : Byte) : outBits o 8 x = wireBits o x := by
  cases o with
  | msbFirst => simp [outBits, shiftOut_msbFirst_iterate, List.range_succ, shiftOutBit, wireBits]
  | lsbFirst => simp [outBits, shiftOut_lsbFirst_iterate, List.range_succ, shiftOutBit, wireBits]

/-- Eight bits out leave the serialiser empty (log entry 7). -/
theorem shiftOut_eight (o : BitOrder) (x : Byte) : (shiftOut o)^[8] x = 0 := by
  cases o with
  | msbFirst => exact (shiftOut_msbFirst_iterate 8 x).trans (BitVec.shiftLeft_eq_zero (le_refl 8))
  | lsbFirst => exact (shiftOut_lsbFirst_iterate 8 x).trans (BitVec.ushiftRight_eq_zero (le_refl 8))

theorem txBitTimes_eq_iterate (n : Nat) (s : State) : txBitTimes n s = txBit^[n] s := by
  induction n generalizing s with
  | zero => rfl
  | succ n ih => rw [txBitTimes, ih, Function.iterate_succ_apply]

theorem txByteTimes_eq_iterate (n : Nat) (s : State) : txByteTimes n s = txByte^[n] s := by
  induction n generalizing s with
  | zero => rfl
  | succ n ih => rw [txByteTimes, ih, Function.iterate_succ_apply]

/-- The content of the serialiser as the next bit goes out: a byte not begun is loaded (log entry 24). -/
def nextShift (x : Byte) (s : State) : Byte := if s.tx.bitc = 0 then x else s.tx.shift

/-- `s` with one bit more of the byte `x` out. -/
def bitOut (x : Byte) (s : State) : State :=
  { s with
    tx := { s.tx with shift := shiftOut s.params.bitOrder (nextShift x s), bitc := s.tx.bitc + 1 }
    trace := s.trace ++ [.txBit (shiftOutBit s.params.bitOrder (nextShift x s))] }

theorem txBit_more {s : State} {x : Byte} (h : offeredByte s = some x) (hbitc : s.tx.bitc ≠ 7) :
    txBit s = bitOut x s := by
  rw [txBit, h]
  exact if_neg hbitc

theorem txBit_last {s : State} {x : Byte} (h : offeredByte s = some x) (hbitc : s.tx.bitc = 7) :
    txBit s = byteTaken (bitOut x s) := by
  rw [txBit, h]
  exact if_pos hbitc

/-- `s` with the first `n` bits of the byte `x` out, one at least. -/
def bitsOut (x : Byte) (n : Nat) (s : State) : State :=
  { s with
    tx := { s.tx with shift := (shiftOut s.params.bitOrder)^[n] x, bitc := BitVec.ofNat 3 n }
    trace := s.trace ++ (outBits s.params.bitOrder n x).map .txBit }

theorem offeredByte_bitsOut (x : Byte) (n : Nat) (s : State) : offeredByte (bitsOut x n s) = offeredByte s := rfl

theorem bitsOut_bitc_ne (x : Byte) (s : State) {n : Nat} {c : BitVec 3} (hn : n < 8) (hc : n ≠ c.toNat) :
    (bitsOut x n s).tx.bitc ≠ c := fun h => hc (by rw [← h]; exact (Nat.mod_eq_of_lt hn).symm)

theorem bitOut_first (x : Byte) {s : State} (h : s.tx.bitc = 0) : bitOut x s = bitsOut x 1 s := by
  rw [bitOut, nextShift, if_pos h, h]
  rfl

/-- Inside a byte the serialiser goes on from where it is. -/
theorem bitOut_bitsOut (x : Byte) {n : Nat} (s : State) (hn : 0 < n) (hn8 : n < 8) :
    bitOut x (bitsOut x n s) = bitsOut x (n + 1) s := by
  have hshift : nextShift x (bitsOut x n s) = (shiftOut s.params.bitOrder)^[n] x :=
    if_neg (bitsOut_bitc_ne x s hn8 (c := 0) (Nat.ne_of_gt hn))
  rw [bitOut, hshift]
  simp only [bitsOut, outBits, Function.iterate_succ_apply', List.range_succ, List.map_append, BitVec.ofNat_add,
    List.append_assoc]
  rfl

/-- The first seven bits of a byte move the serialiser and the trace alone. -/
theorem txBit_iterate {s : State} {x : Byte} (h : offeredByte s = some x) (hbitc : s.tx.bitc = 0) {n : Nat}
    (hn : n < 7) : txBit^[n + 1] s = bitsOut x (n + 1) s := by
  induction n with
  | zero => rw [Function.iterate_one, txBit_more h (by rw [hbitc]; decide), bitOut_first x hbitc]
  | succ n ih =>
    have hmore : (bitsOut x (n + 1) s).tx.bitc ≠ 7 := bitsOut_bitc_ne x s (by omega) (Nat.ne_of_lt hn)
    rw [Function.iterate_succ_apply', ih (by omega), txBit_more (offeredByte_bitsOut x (n + 1) s ▸ h) hmore,
      bitOut_bitsOut x s (by omega) (by omega)]

/-- Eight bits are a byte counted, its bits on serial data out in wire order (R128). -/
theorem txBitTimes_eight {s : State} {x : Byte} (h : offeredByte s = some x) (hbitc : s.tx.bitc = 0) :
    txBitTimes 8 s = byteTaken (serialised (s.trace ++ (wireBits s.params.bitOrder x).map .txBit) s) := by
  have height : bitsOut x 8 s = serialised (s.trace ++ (wireBits s.params.bitOrder x).map .txBit) s := by
    rw [bitsOut, shiftOut_eight, outBits_eight]
    rfl
  rw [txBitTimes_eq_iterate, Function.iterate_succ_apply', txBit_iterate h hbitc (by decide : 6 < 7),
    txBit_last (offeredByte_bitsOut x 7 s ▸ h) rfl, bitOut_bitsOut x s (by decide) (by decide), height]

/-- A whole byte is counted at once (R127). -/
theorem txByte_offered {s : State} {x : Byte} (h : offeredByte s = some x) :
    txByte s = byteTaken (serialised (s.trace ++ [.txByte x]) s) := by
  rw [txByte, h]
  rfl

/-- Settles O50: both levels count the same byte with the serialiser empty, and the trace is what they differ in. -/
theorem eightTxBitsAreOneTxByte : Obligations.EightTxBitsAreOneTxByte := by
  intro s x h hbitc
  have hcounted := byteTaken_withTrace (s := serialised (s.trace ++ [.txByte x]) s) (x := x) h
    (s.trace ++ (wireBits s.params.bitOrder x).map .txBit)
  rw [txBitTimes_eight h hbitc, txByte_offered h]
  exact hcounted

/-! ### A frame, byte after byte -/

/-- `send` takes the byte on offer, and the events `ev` show it: what the two finer levels have in common. -/
def SendsByte (ev : Params → Byte → List TraceEvent) (send : State → State) : Prop :=
  ∀ s x, offeredByte s = some x → s.tx.bitc = 0 → send s = byteTaken (serialised (s.trace ++ ev s.params x) s)

theorem sendsByte_txByte : SendsByte (fun _ x => [.txByte x]) txByte := fun _ _ h _ => txByte_offered h

theorem sendsByte_txBits : SendsByte (fun ps x => (wireBits ps.bitOrder x).map .txBit) (txBitTimes 8) :=
  fun _ _ h hbitc => txBitTimes_eight h hbitc

/-- `s` with the first `n` bytes of its frame taken, none begun after them, and `sh` in the serialiser. -/
def bytesSent (ev : Params → Byte → List TraceEvent) (n : Nat) (sh : Byte) (s : State) : State :=
  { s with
    tx := { s.tx with shift := sh, bitc := 0, bytec := byteCount n }
    trace := s.trace ++ ((txBytes s).take n).flatMap (ev s.params) }

theorem byteCount_val_of_lt {n : Nat} {f : LedFrameBytes} (h : n < f.count) : (byteCount n).val = n :=
  Nat.min_eq_left (h.le.trans (count_le_four f))

section Frame
variable {ev : Params → Byte → List TraceEvent} {send : State → State} {s : State} {q : Phase}

/-- While the frame is not whole, its next byte is on offer. -/
theorem offeredByte_bytesSent (hq : afterWrite s.ph = some q) (hopen : s.linkOpen = true) {n : Nat}
    (hn : n < s.params.ledFrameBytes.count) (sh : Byte) :
    offeredByte (bytesSent ev n sh s) = some ((txBytes s)[n]'(txBytes_length s ▸ hn)) := by
  have hbyte : (txBytes s)[(byteCount n).val]? = some ((txBytes s)[n]'(txBytes_length s ▸ hn)) := by
    rw [byteCount_val_of_lt hn, List.getElem?_eq_getElem]
  exact offeredByte_eq_some_iff.2 ⟨by rw [bytesSent, hq]; rfl, hopen, hbyte⟩

/-- The byte after the first `n` is counted next, its events after theirs. -/
theorem SendsByte.next (h : SendsByte ev send) (hq : afterWrite s.ph = some q) (hopen : s.linkOpen = true)
    {n : Nat} (hn : n < s.params.ledFrameBytes.count) (sh : Byte) :
    send (bytesSent ev n sh s) =
      byteTaken (serialised (s.trace ++ ((txBytes s).take (n + 1)).flatMap (ev s.params)) (bytesSent ev n sh s)) := by
  have hlength : n < (txBytes s).length := txBytes_length s ▸ hn
  rw [h _ _ (offeredByte_bytesSent hq hopen hn sh) rfl, ← List.take_concat_get' _ n hlength, List.flatMap_append,
    List.flatMap_singleton, ← List.append_assoc]
  rfl

/-- Fewer bytes than the frame's leave the phase as it is (R127). -/
theorem SendsByte.iterate (h : SendsByte ev send) (hq : afterWrite s.ph = some q) (hopen : s.linkOpen = true)
    (hbitc : s.tx.bitc = 0) (hbytec : s.tx.bytec = 0) {n : Nat} (hn : n < s.params.ledFrameBytes.count) :
    ∃ sh, send^[n] s = bytesSent ev n sh s := by
  induction n with
  | zero =>
    have hcount : byteCount 0 = s.tx.bytec := hbytec.symm
    exact ⟨s.tx.shift, by simp [bytesSent, hcount, ← hbitc]⟩
  | succ n ih =>
    obtain ⟨sh, hsent⟩ := ih (Nat.lt_of_succ_lt hn)
    have hroom : (byteCount n).val + 1 < s.params.ledFrameBytes.count := by
      rwa [byteCount_val_of_lt (Nat.lt_of_succ_lt hn)]
    have hnext : bytesSent ev (n + 1) 0 s =
        { s with
          tx := { s.tx with shift := 0, bitc := 0, bytec := countByte (byteCount n) }
          trace := s.trace ++ ((txBytes s).take (n + 1)).flatMap (ev s.params) } := by
      rw [bytesSent, ← countByte_byteCount]
    refine ⟨0, ?_⟩
    rw [Function.iterate_succ_apply', hsent, h.next hq hopen (Nat.lt_of_succ_lt hn),
      byteTaken_counted (s := serialised _ (bytesSent ev n sh s)) hroom, hnext]
    rfl

/-- The whole frame ends the phase with its `Write` (R129, decision D1). -/
theorem SendsByte.iterate_full (h : SendsByte ev send) (hq : afterWrite s.ph = some q) (hopen : s.linkOpen = true)
    (hbitc : s.tx.bitc = 0) (hbytec : s.tx.bytec = 0) :
    send^[s.params.ledFrameBytes.count] s =
      { s with
        tx := ⟨s.tx.word, 0, 0, byteCount s.params.ledFrameBytes.count, s.params.ledFrameBytes.count⟩
        ph := q
        trace := s.trace ++ (txBytes s).flatMap (ev s.params) ++
          [.write (txBytes s) s.params.ledFrameBytes.count] } := by
  obtain ⟨n, hn⟩ := exists_count_eq_succ s.params.ledFrameBytes
  have hlast : n < s.params.ledFrameBytes.count := hn ▸ Nat.lt_succ_self n
  obtain ⟨sh, hsent⟩ := h.iterate hq hopen hbitc hbytec hlast
  have hfull : (byteCount n).val + 1 = s.params.ledFrameBytes.count := by rw [byteCount_val_of_lt hlast, hn]
  have hwhole : (txBytes s).take (n + 1) = txBytes s := List.take_of_length_le (by rw [txBytes_length, hn])
  have hiterate : send^[s.params.ledFrameBytes.count] s = send (send^[n] s) := by rw [hn, Function.iterate_succ_apply']
  rw [hiterate, hsent, h.next hq hopen hlast, hwhole, byteTaken_full (s := serialised _ (bytesSent ev n sh s)) hq hfull]
  rfl

end Frame

end Sys2Proof.Machine
end

section
/-! The end of a write at the finer levels, and a whole WRLED at the three levels. -/

namespace Sys2Proof.Machine

/-! ### The end of a write phase -/

/-- A whole byte may follow bits of a partial one and leaves nothing of them (log entry 14). -/
theorem txByte_of_partial {s : State} {x : Byte} (h : offeredByte s = some x) (c : BitVec 3) :
    txByte s = txByte { s with tx := { s.tx with bitc := c } } := by
  rw [txByte_offered h, txByte_offered (s := { s with tx := { s.tx with bitc := c } }) h]
  rfl

/-- Settles O49: the byte level sends byte after byte, and the first one leaves nothing of a partial byte before it. -/
theorem byteLevelWriteSendsTheWholeFrame : Obligations.ByteLevelWriteSendsTheWholeFrame := by
  intro s q hq hopen hbytec
  obtain ⟨n, hn⟩ := exists_count_eq_succ s.params.ledFrameBytes
  have hroom : s.tx.bytec.val < (txBytes s).length := by
    rw [txBytes_length, hbytec, hn]
    exact Nat.succ_pos n
  have hoffer : offeredByte s = some (txBytes s)[s.tx.bytec.val] :=
    offeredByte_eq_some_iff.2 ⟨by rw [hq]; rfl, hopen, List.getElem?_eq_getElem hroom⟩
  have hclean : txByteTimes s.params.ledFrameBytes.count s =
      txByteTimes s.params.ledFrameBytes.count { s with tx := { s.tx with bitc := 0 } } := by
    rw [hn]
    exact congrArg (txByteTimes n) (txByte_of_partial hoffer 0)
  rw [hclean, txByteTimes_eq_iterate, List.map_eq_flatMap]
  exact sendsByte_txByte.iterate_full (s := { s with tx := { s.tx with bitc := 0 } }) hq hopen rfl hbytec

/-- The write that the Link ends: the whole bytes taken are the count (R127, R129). -/
theorem txEnd_eq {s : State} {q : Phase} (hq : afterWrite s.ph = some q) :
    txEnd s =
      { s with
        tx := { s.tx with cnt := s.tx.bytec.val }
        ph := q
        trace := s.trace ++ [.txEnd, .write (txBytes s) s.tx.bytec.val] } := by
  have hend := endWrite_writing (s := emit .txEnd s) s.tx.bytec.val hq
  rw [txEnd_writing hq, hend, emit_trace, List.append_assoc]
  rfl

/-- The phase after a write phase checks the count (42_led_write.md R122, R124). -/
theorem tick_afterWrite {p : Phase} {s : State} (h : afterWrite p = some s.ph) :
    (tick s).wrShort = (strobeHighAndCheck s).wrShort ∧ (tick s).log = (strobeHighAndCheck s).log := by
  rcases afterWrite_cases h with ⟨-, hph⟩ | ⟨-, hph⟩ | ⟨-, hph⟩
  all_goals
    simp only [tick, hph]
    exact ⟨rfl, rfl⟩

/-- A count other than the frame's is flagged and logged by the next phase (R124, decision D22). -/
theorem tick_short {p : Phase} {s : State} (h : afterWrite p = some s.ph) (hshort : s.tx.cnt ≠ ledFrameCount s) :
    (tick s).wrShort = true ∧ (tick s).log = s.log ++ [.shortWrite s.tx.cnt] := by
  obtain ⟨hflag, hlog⟩ := tick_afterWrite h
  rw [hflag, hlog, strobeHighAndCheck, checkShort_short (s := driveLine .ledStore true s) hshort]
  exact ⟨rfl, rfl⟩

/-- Settles O51: a write under way has not taken the whole frame, so its count is short. -/
theorem txEndGivesTheWholeBytesTaken : Obligations.TxEndGivesTheWholeBytesTaken := by
  intro s q hq
  refine ⟨txEnd_eq hq, fun hinv => ?_⟩
  have hwriting : writing s.ph = true := by rw [writing_eq_isSome, hq]; rfl
  have hroom : (s.tx.bytec.val : Int) < ledFrameCount s := Int.ofNat_lt.2 (hinv.write_room hwriting)
  have hshort : (txEnd s).tx.cnt ≠ ledFrameCount (txEnd s) := by
    rw [txEnd_eq hq]
    exact hroom.ne
  obtain ⟨hflag, hlog⟩ := tick_short (p := s.ph) (s := txEnd s) (by rw [txEnd_eq hq]; exact hq) hshort
  refine ⟨hroom, bne_iff_ne.2 hshort, hflag, ?_⟩
  rw [hlog, txEnd_eq hq]

/-! ### A whole WRLED -/

/-- R122, whole, as one update. -/
theorem writeStatus_eq (st d : Byte) (b : Word16) (s : State) :
    writeStatus st d b s =
      { s with
        tx := txAfterLinkWrite (readyToSend st d b s)
        ph := .idle
        wrShort := decide (writeAnswer s ≠ ledFrameCount s)
        log := s.log ++ (if writeAnswer s = ledFrameCount s then [] else [.shortWrite (writeAnswer s)])
        lines := { s.lines with ledStore := .high }
        trace := s.trace ++ [.lineSet .ledStore false,
          .write ([loByte b, hiByte b, d, st].take s.params.ledFrameBytes.count) (writeAnswer s),
          .lineSet .ledStore true]
        results := s.results ++ [.wrled (decide (writeAnswer s ≠ ledFrameCount s))]
        link := linkAfterWrite s
        draws := drawsAfter s } := by
  rw [writeStatus, writeBody_eq]
  rfl

/-- The last phase of a write that the finer levels have moved, where its count is the one the Link answers to the big
step: they differ in the hidden transmit registers, the trace and what asking the Link moves. -/
theorem tick_wr3_of_count (st d : Byte) (b : Word16) (s : State) {tx : Tx} (hcnt : tx.cnt = writeAnswer s)
    (tr : List TraceEvent) :
    tick (setPh .wr3 { readyToSend st d b s with tx := tx, trace := tr }) =
      { writeStatus st d b s with
        tx := tx
        trace := tr ++ [.lineSet .ledStore true]
        link := s.link
        draws := s.draws } := by
  rw [tick_wr3, finishWrite, strobeHighAndCheck, checkShort_eq rfl, writeStatus_eq, ← hcnt]
  rfl

/-- The bytes of the frame that WRLED sends. -/
theorem txBytes_readyToSend (st d : Byte) (b : Word16) (s : State) :
    txBytes (readyToSend st d b s) = [loByte b, hiByte b, d, st].take s.params.ledFrameBytes.count :=
  txBytes_of_word rfl

/-- The transmit registers after a write in one go that is full are as the finer levels leave them (log entry 7). -/
theorem txAfterLinkWrite_full {s : State} (hopen : s.linkOpen = true)
    (hfull : writeAnswer s = s.params.ledFrameBytes.count) :
    txAfterLinkWrite s =
      ⟨s.tx.word, 0, 0, byteCount s.params.ledFrameBytes.count, s.params.ledFrameBytes.count⟩ := by
  rw [txAfterLinkWrite, if_pos hopen, hfull]
  exact if_pos rfl

/-- A closed device takes no byte: only the count is written (20_memory.md R44). -/
theorem txAfterLinkWrite_closed {s : State} (h : s.linkOpen = false) : txAfterLinkWrite s = { s.tx with cnt := 0 } :=
  if_neg (ne_true_of_eq_false h)

theorem drawsAfter_closed {s : State} (h : s.linkOpen = false) : drawsAfter s = s.draws :=
  if_neg (ne_true_of_eq_false h)

/-- A write in one go of `n` bytes, fewer than the frame's, leaves the byte counter at `n` (log entry 7). -/
theorem txAfterLinkWrite_short {s : State} {n : Nat} (hopen : s.linkOpen = true) (hn : n < s.params.ledFrameBytes.count)
    (hcnt : writeAnswer s = n) :
    ∃ sh bitc, txAfterLinkWrite s = ⟨s.tx.word, sh, bitc, byteCount n, n⟩ := by
  have hshort : (n : Int) < ledFrameCount s := Int.ofNat_lt.2 hn
  refine ⟨Config.freeByte s.draws, Config.freeBitc s.draws, ?_⟩
  rw [txAfterLinkWrite, if_pos hopen, hcnt, txAfterWrite, if_neg hshort.ne, if_pos ⟨Int.natCast_nonneg n, hshort⟩]
  rfl

/-- A whole WRLED whose frame is sent byte after byte, at either finer level, ends as the big step (R129). -/
theorem SendsByte.wrled_full {ev : Params → Byte → List TraceEvent} {send : State → State} (h : SendsByte ev send)
    (st d : Byte) (b : Word16) {s : State} (hopen : s.linkOpen = true)
    (hfull : writeAnswer s = s.params.ledFrameBytes.count) :
    tick (send^[s.params.ledFrameBytes.count] (tick (acceptStart .wrled st d b s))) =
      { writeStatus st d b s with
        trace := s.trace ++ [.lineSet .ledStore false] ++
          ([loByte b, hiByte b, d, st].take s.params.ledFrameBytes.count).flatMap (ev s.params) ++
          [.write ([loByte b, hiByte b, d, st].take s.params.ledFrameBytes.count) s.params.ledFrameBytes.count,
            .lineSet .ledStore true]
        link := s.link
        draws := s.draws } := by
  let r := readyToSend st d b s
  have hbytes : txBytes (setPh .wr2 r) = [loByte b, hiByte b, d, st].take s.params.ledFrameBytes.count :=
    txBytes_readyToSend st d b s
  have htx : (writeStatus st d b s).tx =
      ⟨r.tx.word, 0, 0, byteCount s.params.ledFrameBytes.count, s.params.ledFrameBytes.count⟩ := by
    rw [writeStatus_eq]
    exact txAfterLinkWrite_full (s := r) hopen hfull
  have hsent := h.iterate_full (s := setPh .wr2 r) (q := .wr3) rfl hopen rfl rfl
  rw [hbytes] at hsent
  refine (congrArg tick hsent).trans ((tick_wr3_of_count st d b s hfull.symm _).trans ?_)
  ext1
  case tx => exact htx.symm
  case trace => exact List.append_assoc ..
  all_goals rfl

/-- Settles O59: both finer levels send byte after byte. -/
theorem finerLevelsOfAFullWriteRefineTheBigStep : Obligations.FinerLevelsOfAFullWriteRefineTheBigStep := by
  intro s u st d b q hidle hopen hwrites hu bs ending
  have hfull : writeAnswer s = s.params.ledFrameBytes.count := writeAnswer_of_writes hopen hwrites
  cases (exec_wrled_idle st d b hidle).symm.trans hu
  refine ⟨?_, ?_, ?_⟩
  · rw [writeStatus_eq, hfull, List.append_assoc]
    rfl
  · rw [txBitTimes_eq_iterate, Function.iterate_mul, List.map_flatMap, ← funext (txBitTimes_eq_iterate 8)]
    exact sendsByte_txBits.wrled_full st d b hopen hfull
  · rw [txByteTimes_eq_iterate, List.map_eq_flatMap]
    exact sendsByte_txByte.wrled_full st d b hopen hfull

/-- The last two steps of a WRLED that the Link ends after `n` whole bytes, the count it answers to the big step. -/
theorem tick_txEnd_wrled (st d : Byte) (b : Word16) (s : State) {tx : Tx} {n : Nat} (hword : tx.word = pack32 st d b)
    (hbytec : tx.bytec.val = n) (hcnt : writeAnswer s = n) (tr : List TraceEvent) :
    tick (txEnd (setPh .wr2 { readyToSend st d b s with tx := tx, trace := tr })) =
      { writeStatus st d b s with
        tx := { tx with cnt := n }
        trace := tr ++ [.txEnd, .write ([loByte b, hiByte b, d, st].take s.params.ledFrameBytes.count) n,
          .lineSet .ledStore true]
        link := s.link
        draws := s.draws } := by
  let r : State := setPh .wr2 { readyToSend st d b s with tx := tx, trace := tr }
  have hbytes : txBytes r = [loByte b, hiByte b, d, st].take s.params.ledFrameBytes.count := txBytes_of_word hword
  have hend := txEnd_eq (s := r) (q := .wr3) rfl
  rw [hbytes] at hend
  subst hbytec
  refine (congrArg tick hend).trans
    ((tick_wr3_of_count st d b s (tx := { tx with cnt := tx.bytec.val }) hcnt.symm _).trans ?_)
  rw [setPh_trace, List.append_assoc]
  rfl

/-- Settles O60: the byte level sends `n` bytes, and the end of the write makes them the count. -/
theorem finerLevelsOfAShortWriteRefineTheBigStep : Obligations.FinerLevelsOfAShortWriteRefineTheBigStep := by
  intro s u st d b hidle hu bs
  cases (exec_wrled_idle st d b hidle).symm.trans hu
  refine ⟨fun n q hopen hn hwrites => ?_, fun hclosed => ?_⟩
  · have hcnt : writeAnswer s = n := writeAnswer_of_writes hopen hwrites
    refine ⟨by rw [writeStatus_eq, hcnt], ?_⟩
    let r := readyToSend st d b s
    obtain ⟨sh, hsent⟩ := sendsByte_txByte.iterate (s := setPh .wr2 r) (q := .wr3) rfl hopen rfl rfl hn
    obtain ⟨sh', bitc', hbig⟩ := txAfterLinkWrite_short (s := r) hopen hn hcnt
    have htx : (writeStatus st d b s).tx = ⟨r.tx.word, sh', bitc', byteCount n, n⟩ := by
      rw [writeStatus_eq]
      exact hbig
    have hbytes : txBytes (setPh .wr2 r) = bs := txBytes_readyToSend st d b s
    rw [bytesSent, hbytes] at hsent
    refine ⟨sh, 0, ?_⟩
    rw [txByteTimes_eq_iterate, List.map_eq_flatMap, htx]
    exact (congrArg (fun t => tick (txEnd t)) hsent).trans
      (tick_txEnd_wrled st d b s (tx := { r.tx with shift := sh, bitc := 0, bytec := byteCount n }) rfl
        (byteCount_val_of_lt hn) hcnt _)
  · have hcnt : writeAnswer s = (0 : Nat) := writeAnswer_closed hclosed
    refine ⟨by rw [writeStatus_eq, hcnt]; rfl, ?_⟩
    have hready : tick (acceptStart .wrled st d b s) =
        setPh .wr2 { readyToSend st d b s with
          tx := (readyToSend st d b s).tx
          trace := s.trace ++ [.lineSet .ledStore false] } := rfl
    rw [hready, tick_txEnd_wrled st d b s rfl rfl hcnt, writeStatus_eq, linkAfterWrite_closed hclosed,
      drawsAfter_closed hclosed, txAfterLinkWrite_closed (s := readyToSend st d b s) hclosed, List.append_assoc]
    rfl

end Sys2Proof.Machine
end
